-- ==== Sys2Proof/Word.lean ====
section
/-! DEFINITION. The word types of DYN4-PE: only what the spec treats as bits (00_scope.md rules R9, R11, R12). -/

namespace Sys2Proof

/-- One byte of a frame (R12). -/
abbrev Byte := BitVec 8

/-- One register of the host port (R11: register width 32 bits). -/
abbrev Word := BitVec 32

/-- A function identifier, host-side or drive-side (R9: `FUNC_BITS = 5`). -/
abbrev Ident := BitVec 5

/-- A drive address (R9: `DRIVE_BITS = 5`). -/
abbrev DriveAddr := BitVec 5

/-- A length code (R9: `LC_BITS = 2`). -/
abbrev LenCode := BitVec 2

/-- One payload value (R9: "every frame byte carries 7 payload bits"). -/
abbrev Val7 := BitVec 7

/-- The index of a register slot of the host port (R11: 4 bits, 16 slots). -/
abbrev Slot := BitVec 4

end Sys2Proof
end

