-- ==== Sys2Proof/Config.lean ====
section
/-! DEFINITION. What the source fixes for every build of the block (R9, R11). The two parameters that a build
chooses, `HOST_MAP` and `GREAD_HOST_FUNC` (R10, R45), are constants held in the state, so that every statement is
about all their values (log 5); their default contents stand in `Machine/Params.lean`. -/

namespace Sys2Proof.Config

/-- The shortest frame: a frame with length code `lc` has `minFrame + lc` bytes (R9, R95). -/
def minFrame : Nat := 4

/-- Bytes of a frame that are no payload: byte 0, byte 1 and the checksum (R9: `k = n - 3`). -/
def frameOverhead : Nat := 3

/-- The reset value of `MAX_ATTEMPTS`, the source's default bound (R9, R25). -/
def defaultMaxAttempts : BitVec 4 := 3#4

end Sys2Proof.Config
end

