-- ==== Sys2Proof/Machine/Params.lean ====
section
/-! DEFINITION. Default contents of the two parameters of the block (R10, R300, R301). PRESUMED: the spec marks both as
from general knowledge, not in the source (93_implementation_defined.md K4, K5; log 5). -/

namespace Sys2Proof.Machine

/-- The default `HOST_MAP` (R300): eleven host-side read identifiers and the drive-side identifiers of their replies;
every other entry none. PRESUMED (log 5). -/
def defaultHostMap : Vector (Option Ident) 32 :=
  #v[none, none, none, none, none, none, some 0x16#5, none,
     some 0x1a#5, some 0x19#5, none, none, none, none, none, none,
     none, none, none, none, none, none, none, none,
     some 0x10#5, some 0x11#5, some 0x12#5, some 0x13#5, some 0x14#5, some 0x15#5, some 0x17#5, some 0x18#5]

/-- The default `GREAD_HOST_FUNC` (R301). PRESUMED (log 5). -/
def defaultGreadHostFunc : Ident := 0x0e#5

end Sys2Proof.Machine
end

