-- ==== Sys2Proof/Machine/State.lean ====
section
/-! DEFINITION. Everything the spec gives the machine (10_state.md), as plain data, and the machine after reset (R49).
Registers are held as their fields; the words the host reads are computed from them (`Machine/Operands.lean`,
`Machine/Flags.lean`), so a reserved bit reads 0 in every state (R26, R27, R29). -/

namespace Sys2Proof.Machine

/-- `S.ses`, the session state (R40). It says which transport request is outstanding. -/
inductive Session where
  | idle
  | flushing
  | writing
  | reading
deriving DecidableEq, Repr

/-- `S.op`, the latched command (R41). -/
inductive Op where
  | encode
  | write
  | read
  | gread
  | await
  | recv
  | flush
deriving DecidableEq, Repr

/-- The error codes of STATUS.ERR (R351); 10 to 15 are never produced, so they have no constructor. -/
inductive ErrCode where
  | ok
  | transport
  | timeout
  | checksum
  | length
  | unknownFunc
  | unexpectedFunc
  | unallowed
  | unrecognized
  | illegalCmd
deriving DecidableEq, Repr

/-- The kinds of decoded value in STATUS.RES_TAG (R34); 6 to 15 are never produced, so they have no constructor. -/
inductive ResTag where
  | none
  | scalar7
  | signed
  | gearPair
  | statusRecord
  | configRecord
deriving DecidableEq, Repr

/-- An answer of the transport (R70). -/
inductive TAnswer where
  /-- The answer to `TFlush()` (R73). -/
  | flushAck
  /-- The answer to `TWrite`: how many bytes the transport accepted (R72). -/
  | count (c : Nat)
  /-- An answer to `TRead1()`: the oldest byte received and not yet delivered (R71). -/
  | byte (b : Byte)
  /-- An answer to `TRead1()`: no byte within the transport's read timeout (R71). -/
  | timeout
  /-- An answer to `TRead1()`: the transport's read primitive failed (R71). -/
  | fail
deriving DecidableEq, Repr

/-- One event of the environment: what a step of the block reacts to (R19, R400). -/
inductive Event where
  /-- The reset input (R400). -/
  | reset
  /-- `MemRead(idx, 4)` (R60). -/
  | hostRead (idx : Slot)
  /-- `MemWrite(idx, 4, v)` (R60). -/
  | hostWrite (idx : Slot) (v : Word)
  /-- A transport answer (R70). -/
  | answer (a : TAnswer)
deriving DecidableEq, Repr

/-- A request on the transport port (R70). -/
inductive TRequest where
  | flush
  | write (bytes : List Byte)
  | read1
deriving DecidableEq, Repr

/-- The direction of an observation record (R380). -/
inductive Dir where
  | tx
  | rx
deriving DecidableEq, Repr

/-- A record on the observation port (R380). -/
structure ObsRecord where
  dir : Dir
  bytes : List Byte
deriving DecidableEq, Repr

/-- The state of the block, and the model's view of its environment (the last four fields). -/
structure State where
  /-- CONFIG.DRIVE_ADDR (R22). -/
  driveAddr : DriveAddr
  /-- CONFIG.DEBUG (R23). -/
  debug : Bool
  /-- CONFIG.FLUSH_ON_SEND (R24). -/
  flushOnSend : Bool
  /-- CONFIG.MAX_ATTEMPTS (R25). -/
  maxAttempts : BitVec 4
  /-- PAYLOAD.P0 (R27). -/
  p0 : Val7
  /-- PAYLOAD.P1 (R27). -/
  p1 : Val7
  /-- PAYLOAD.P2 (R27). -/
  p2 : Val7
  /-- PAYLOAD.P3 (R27). -/
  p3 : Val7
  /-- STATUS.BUSY (R30). -/
  busy : Bool
  /-- STATUS.DONE (R31). -/
  done : Bool
  /-- STATUS.ERR (R32). -/
  err : ErrCode
  /-- STATUS.ATTEMPTS (R33). -/
  attempts : BitVec 4
  /-- STATUS.RES_TAG (R34). -/
  resTag : ResTag
  /-- STATUS.SAW_TIMEOUT (R35). -/
  sawTimeout : Bool
  /-- STATUS.SAW_CKSUM (R35). -/
  sawCksum : Bool
  /-- STATUS.SAW_NONMATCH (R35). -/
  sawNonmatch : Bool
  /-- STATUS.RX_ANY (R35). -/
  rxAny : Bool
  /-- STATUS.RX_FUNC (R35). -/
  rxFunc : Ident
  /-- STATUS.OVERRUN (R36). -/
  overrun : Bool
  /-- RESULT0 (R37). -/
  result0 : Word
  /-- RESULT1 (R37). -/
  result1 : Word
  /-- `S.txf`, the last outbound frame built (R46), shown as TXF_LO and TXF_HI (R38). -/
  txf : List Byte
  /-- `S.rxf`, the last inbound frame completed (R46), shown as RXF_LO and RXF_HI (R39). -/
  rxf : List Byte
  /-- `S.ses`, the session state (R40). -/
  ses : Session
  /-- `S.op`, the latched command (R41). -/
  op : Op
  /-- `S.expf`, the expected drive-side identifier (R42). -/
  expf : Ident
  /-- `S.acc`, the Frame Reader's accumulator (R43). -/
  acc : List Byte
  /-- `HOST_MAP`, a constant of the block (R45). -/
  hostMap : Vector (Option Ident) 32
  /-- `GREAD_HOST_FUNC`, a constant of the block (R45). -/
  greadHostFunc : Ident
  /-- The MODEL's own: the events the environment has still to deliver, oldest first (R47, log 1). -/
  env : List Event
  /-- The MODEL's own: the events the environment delivers over and over once `env` is used up, none where it falls
  silent (R47, R171, log 1). It makes a run that never ends plain data. -/
  again : List Event
  /-- The MODEL's own: the records the observation port has received, oldest first (R76, R380, log 2). -/
  obs : List ObsRecord
  /-- The MODEL's own: the value the last `MemRead` returned to the host (R60, log 2). -/
  rdata : Word
deriving DecidableEq, Repr

/-- The ways the machine can stop with a fault: none. An error of the spec is a completion with a code in STATUS.ERR, a
next state (R350: it "never leaves the block in a state it cannot leave"), and an event that does not fit is dropped
(R402), so no constructor is needed (log 12; safe: nothing the spec lets go on is stopped). -/
inductive Fault where
deriving DecidableEq, Repr

/-- The ways the machine can refuse an instruction. -/
inductive Refusal where
  /-- The instruction has no meaning in this model. Raised by no arm of `exec`: every instruction has its meaning. Safe
  where it is raised: the machine stops. -/
  | notModelled (mnemonic : String)
deriving DecidableEq, Repr

/-- The block right after reset (R49, R400): the spec states every value but those of the two constants, which are the
defaults of R300 and R301 (log 5), and of the model's own fields `env`, `again`, `obs`,
`rdata` (log 1, log 2). -/
def State.reset : State where
  driveAddr := 0
  debug := false
  flushOnSend := true
  maxAttempts := Config.defaultMaxAttempts
  p0 := 0
  p1 := 0
  p2 := 0
  p3 := 0
  busy := false
  done := false
  err := .ok
  attempts := 0
  resTag := .none
  sawTimeout := false
  sawCksum := false
  sawNonmatch := false
  rxAny := false
  rxFunc := 0
  overrun := false
  result0 := 0
  result1 := 0
  txf := []
  rxf := []
  ses := .idle
  op := .encode
  expf := 0
  acc := []
  hostMap := defaultHostMap
  greadHostFunc := defaultGreadHostFunc
  env := []
  again := []
  obs := []
  rdata := 0

end Sys2Proof.Machine
end

