-- ==== Sys2Proof/Machine/Flags.lean ====
section
/-! DEFINITION. STATUS: the numbers of its codes, the word the host reads, and how each of its flags is computed
(10_state.md rules R29 to R36, R48; 43_command_session.md rules R262, R273). -/

namespace Sys2Proof.Machine

/-- The number of an error code in STATUS.ERR (R351). -/
def errNumber (e : ErrCode) : BitVec 4 :=
  match e with
  | .ok => 0
  | .transport => 1
  | .timeout => 2
  | .checksum => 3
  | .length => 4
  | .unknownFunc => 5
  | .unexpectedFunc => 6
  | .unallowed => 7
  | .unrecognized => 8
  | .illegalCmd => 9

/-- The number of a value kind in STATUS.RES_TAG (R34). -/
def tagNumber (t : ResTag) : BitVec 4 :=
  match t with
  | .none => 0
  | .scalar7 => 1
  | .signed => 2
  | .gearPair => 3
  | .statusRecord => 4
  | .configRecord => 5

/-- The word the host reads at STATUS (R29): reserved bits [31], [29:25] and [3:2] read 0. -/
def statusWord (s : State) : Word :=
  0#1 ++ BitVec.ofBool s.overrun ++ 0#5 ++ s.rxFunc ++ BitVec.ofBool s.rxAny ++ BitVec.ofBool s.sawNonmatch
    ++ BitVec.ofBool s.sawCksum ++ BitVec.ofBool s.sawTimeout ++ tagNumber s.resTag ++ s.attempts
    ++ errNumber s.err ++ 0#2 ++ BitVec.ofBool s.done ++ BitVec.ofBool s.busy

/-- The completion signal `done_irq`, equal to STATUS.DONE at every step (R371). -/
def doneIrq (s : State) : Bool := s.done

/-- `clear_for_start()` (R262): what starting a command clears. With it the previous command's outcome is gone: it is
the block's return from an error (R363). -/
def clearForStart (s : State) : State :=
  { s with
    done := false, err := .ok, attempts := 0, resTag := .none
    sawTimeout := false, sawCksum := false, sawNonmatch := false, rxAny := false, rxFunc := 0
    result0 := 0, result1 := 0 }

/-- One more Frame Reader attempt has ended (R33, R271). The field is 4 bits wide (log 11). -/
def countAttempt (s : State) : State := { s with attempts := s.attempts + 1 }

/-- An attempt ended in a timeout (R35). -/
def noteTimeout (s : State) : State := { s with sawTimeout := true }

/-- A completed frame failed the checksum (R35). -/
def noteCksum (s : State) : State := { s with sawCksum := true }

/-- A checksum-valid frame had another identifier than the expected one (R35). -/
def noteNonmatch (s : State) : State := { s with sawNonmatch := true }

/-- `exhaust_code()` (R273), the error of an exhausted budget, from the flags the command set (R360). -/
def exhaustCode (s : State) : ErrCode :=
  if s.sawNonmatch then .unexpectedFunc
  else if s.sawCksum then .checksum
  else .timeout

end Sys2Proof.Machine
end

