-- ==== Sys2Proof/Syntax.lean ====
section
/-! DEFINITION. The instructions of DYN4-PE, one constructor for each row of spec/opcode_table.json (R8: the command
words of format CMD, and the second and third encoding spaces, the outbound and inbound function identifiers of
formats TXB1 and RXB1). Fields a command ignores (R102, R103, R104) are kept as operands, so that no bit of a word is
dropped. -/

namespace Sys2Proof

/-- An instruction. `func`, `h`, `g`, `d` are the FUNC field, `lc` the LC field. The identifier names in the comments
are the spec's, from general knowledge (92_eei_decisions.md D44). -/
inductive Instr where
  /-- OP 0 (R280): build a frame, transmit nothing. -/
  | encode (func : Ident) (lc : LenCode)
  /-- OP 1 (R281): build a frame and transmit it. -/
  | write (func : Ident) (lc : LenCode)
  /-- OP 2 (R282): request host identifier `h`, await its mapped reply. -/
  | read (h : Ident) (lc : LenCode)
  /-- OP 3 (R283): general read of drive-side identifier `g`; `lc` is ignored. -/
  | gread (g : Ident) (lc : LenCode)
  /-- OP 4 (R284): await drive-side identifier `d`; `lc` is ignored. -/
  | await (d : Ident) (lc : LenCode)
  /-- OP 5 (R285): one reader attempt; both fields are ignored. -/
  | recv (func : Ident) (lc : LenCode)
  /-- OP 6 (R286): discard the transport's input; both fields are ignored. -/
  | flush (func : Ident) (lc : LenCode)
  /-- A word that spells no command (R104, R287). -/
  | illegal (w : Word)
  /-- Host-side identifier 0x00, Set_Origin (R310). -/
  | tx00 (lc : LenCode)
  /-- Host-side identifier 0x01, Go_Absolute_Pos (R311). -/
  | tx01 (lc : LenCode)
  /-- Host-side identifier 0x02, Make_LinearLine (R312). -/
  | tx02 (lc : LenCode)
  /-- Host-side identifier 0x03, Go_Relative_Pos (R313). -/
  | tx03 (lc : LenCode)
  /-- Host-side identifier 0x04, Make_CircularArc (R314). -/
  | tx04 (lc : LenCode)
  /-- Host-side identifier 0x05, Assign_Drive_ID (R315). -/
  | tx05 (lc : LenCode)
  /-- Host-side identifier 0x06, Read_Drive_ID (R316). -/
  | tx06 (lc : LenCode)
  /-- Host-side identifier 0x07, Set_Drive_Config (R317). -/
  | tx07 (lc : LenCode)
  /-- Host-side identifier 0x08, Read_Drive_Config (R318). -/
  | tx08 (lc : LenCode)
  /-- Host-side identifier 0x09, Read_Drive_Status (R319). -/
  | tx09 (lc : LenCode)
  /-- Host-side identifier 0x0a, Turn_ConstSpeed (R320). -/
  | tx0a (lc : LenCode)
  /-- Host-side identifier 0x0b, Square_Wave (R321). -/
  | tx0b (lc : LenCode)
  /-- Host-side identifier 0x0c, Sin_Wave (R322). -/
  | tx0c (lc : LenCode)
  /-- Host-side identifier 0x0d, SS_Frequency (R323). -/
  | tx0d (lc : LenCode)
  /-- Host-side identifier 0x0e, General_Read (R324). -/
  | tx0e (lc : LenCode)
  /-- Host-side identifier 0x0f, ForMotorDefine (R325). -/
  | tx0f (lc : LenCode)
  /-- Host-side identifier 0x10, Set_MainGain (R326). -/
  | tx10 (lc : LenCode)
  /-- Host-side identifier 0x11, Set_SpeedGain (R327). -/
  | tx11 (lc : LenCode)
  /-- Host-side identifier 0x12, Set_IntGain (R328). -/
  | tx12 (lc : LenCode)
  /-- Host-side identifier 0x13, Set_TrqCons (R329). -/
  | tx13 (lc : LenCode)
  /-- Host-side identifier 0x14, Set_HighSpeed (R330). -/
  | tx14 (lc : LenCode)
  /-- Host-side identifier 0x15, Set_HighAccel (R331). -/
  | tx15 (lc : LenCode)
  /-- Host-side identifier 0x16, Set_Pos_OnRange (R332). -/
  | tx16 (lc : LenCode)
  /-- Host-side identifier 0x17, Set_GearNumber (R333). -/
  | tx17 (lc : LenCode)
  /-- Host-side identifier 0x18, Read_MainGain (R334). -/
  | tx18 (lc : LenCode)
  /-- Host-side identifier 0x19, Read_SpeedGain (R335). -/
  | tx19 (lc : LenCode)
  /-- Host-side identifier 0x1a, Read_IntGain (R336). -/
  | tx1a (lc : LenCode)
  /-- Host-side identifier 0x1b, Read_TrqCons (R337). -/
  | tx1b (lc : LenCode)
  /-- Host-side identifier 0x1c, Read_HighSpeed (R338). -/
  | tx1c (lc : LenCode)
  /-- Host-side identifier 0x1d, Read_HighAccel (R339). -/
  | tx1d (lc : LenCode)
  /-- Host-side identifier 0x1e, Read_Pos_OnRange (R340). -/
  | tx1e (lc : LenCode)
  /-- Host-side identifier 0x1f, Read_GearNumber (R341). -/
  | tx1f (lc : LenCode)
  /-- Drive-side identifier 0x00 (R200). -/
  | rx00 (lc : LenCode)
  /-- Drive-side identifier 0x01 (R201). -/
  | rx01 (lc : LenCode)
  /-- Drive-side identifier 0x02 (R202). -/
  | rx02 (lc : LenCode)
  /-- Drive-side identifier 0x03 (R203). -/
  | rx03 (lc : LenCode)
  /-- Drive-side identifier 0x04 (R204). -/
  | rx04 (lc : LenCode)
  /-- Drive-side identifier 0x05 (R205). -/
  | rx05 (lc : LenCode)
  /-- Drive-side identifier 0x06 (R206). -/
  | rx06 (lc : LenCode)
  /-- Drive-side identifier 0x07 (R207). -/
  | rx07 (lc : LenCode)
  /-- Drive-side identifier 0x08 (R208). -/
  | rx08 (lc : LenCode)
  /-- Drive-side identifier 0x09 (R209). -/
  | rx09 (lc : LenCode)
  /-- Drive-side identifier 0x0a (R210). -/
  | rx0a (lc : LenCode)
  /-- Drive-side identifier 0x0b (R211). -/
  | rx0b (lc : LenCode)
  /-- Drive-side identifier 0x0c (R212). -/
  | rx0c (lc : LenCode)
  /-- Drive-side identifier 0x0d (R213). -/
  | rx0d (lc : LenCode)
  /-- Drive-side identifier 0x0e (R214). -/
  | rx0e (lc : LenCode)
  /-- Drive-side identifier 0x0f (R215). -/
  | rx0f (lc : LenCode)
  /-- Drive-side identifier 0x10 (R216). -/
  | rx10 (lc : LenCode)
  /-- Drive-side identifier 0x11 (R217). -/
  | rx11 (lc : LenCode)
  /-- Drive-side identifier 0x12 (R218). -/
  | rx12 (lc : LenCode)
  /-- Drive-side identifier 0x13 (R219). -/
  | rx13 (lc : LenCode)
  /-- Drive-side identifier 0x14 (R220). -/
  | rx14 (lc : LenCode)
  /-- Drive-side identifier 0x15 (R221). -/
  | rx15 (lc : LenCode)
  /-- Drive-side identifier 0x16 (R222). -/
  | rx16 (lc : LenCode)
  /-- Drive-side identifier 0x17 (R223). -/
  | rx17 (lc : LenCode)
  /-- Drive-side identifier 0x18 (R224). -/
  | rx18 (lc : LenCode)
  /-- Drive-side identifier 0x19 (R225). -/
  | rx19 (lc : LenCode)
  /-- Drive-side identifier 0x1a (R226). -/
  | rx1a (lc : LenCode)
  /-- Drive-side identifier 0x1b (R227). -/
  | rx1b (lc : LenCode)
  /-- Drive-side identifier 0x1c (R228). -/
  | rx1c (lc : LenCode)
  /-- Drive-side identifier 0x1d (R229). -/
  | rx1d (lc : LenCode)
  /-- Drive-side identifier 0x1e (R230). -/
  | rx1e (lc : LenCode)
  /-- Drive-side identifier 0x1f (R231). -/
  | rx1f (lc : LenCode)
deriving DecidableEq, Repr

end Sys2Proof
end

