-- ==== Sys2Proof/WellFormed.lean ====
section
/-! DEFINITION. Which instructions are well formed. Every operand is exactly as wide as its field, so the one thing to
check is that the operand of `illegal` is a word that spells no command (R104). -/

namespace Sys2Proof

/-- The words that spell no command (R104): OP = 7, or a reserved bit of [7:3], [15:13], [31:18] set. -/
def isIllegalWord (w : Word) : Bool :=
  w.extractLsb' 0 3 == 7#3 || w &&& 0xFFFCE0F8#32 != 0#32

/-- An instruction is well formed when its encoding spells it (R104, R105). -/
def Instr.wellFormed (i : Instr) : Bool :=
  match i with
  | .illegal w => isIllegalWord w
  | .encode _ _ => true
  | .write _ _ => true
  | .read _ _ => true
  | .gread _ _ => true
  | .await _ _ => true
  | .recv _ _ => true
  | .flush _ _ => true
  | .tx00 _ => true
  | .tx01 _ => true
  | .tx02 _ => true
  | .tx03 _ => true
  | .tx04 _ => true
  | .tx05 _ => true
  | .tx06 _ => true
  | .tx07 _ => true
  | .tx08 _ => true
  | .tx09 _ => true
  | .tx0a _ => true
  | .tx0b _ => true
  | .tx0c _ => true
  | .tx0d _ => true
  | .tx0e _ => true
  | .tx0f _ => true
  | .tx10 _ => true
  | .tx11 _ => true
  | .tx12 _ => true
  | .tx13 _ => true
  | .tx14 _ => true
  | .tx15 _ => true
  | .tx16 _ => true
  | .tx17 _ => true
  | .tx18 _ => true
  | .tx19 _ => true
  | .tx1a _ => true
  | .tx1b _ => true
  | .tx1c _ => true
  | .tx1d _ => true
  | .tx1e _ => true
  | .tx1f _ => true
  | .rx00 _ => true
  | .rx01 _ => true
  | .rx02 _ => true
  | .rx03 _ => true
  | .rx04 _ => true
  | .rx05 _ => true
  | .rx06 _ => true
  | .rx07 _ => true
  | .rx08 _ => true
  | .rx09 _ => true
  | .rx0a _ => true
  | .rx0b _ => true
  | .rx0c _ => true
  | .rx0d _ => true
  | .rx0e _ => true
  | .rx0f _ => true
  | .rx10 _ => true
  | .rx11 _ => true
  | .rx12 _ => true
  | .rx13 _ => true
  | .rx14 _ => true
  | .rx15 _ => true
  | .rx16 _ => true
  | .rx17 _ => true
  | .rx18 _ => true
  | .rx19 _ => true
  | .rx1a _ => true
  | .rx1b _ => true
  | .rx1c _ => true
  | .rx1d _ => true
  | .rx1e _ => true
  | .rx1f _ => true

end Sys2Proof
end

