-- ==== Sys2Proof/Decode.lean ====
section
/-! DEFINITION. The three encoding spaces (R8, R98, R100): a command word (format CMD), byte 1 of an outbound frame
(TXB1) and byte 1 of an inbound frame (RXB1). The decoder is total and rejects by name; after it stands the encoder. -/

namespace Sys2Proof

/-- An encoded instruction, with its format: which of the three spaces it is read in is not in the bits (R98: "Two
numbering spaces exist and must not be conflated"). -/
inductive Code where
  /-- A word written to COMMAND (format CMD). -/
  | cmd (w : Word)
  /-- Byte 1 of an outbound frame (format TXB1). -/
  | tx (b : Byte)
  /-- Byte 1 of an inbound frame (format RXB1). -/
  | rx (b : Byte)
deriving DecidableEq, Repr

/-- Why bits are no instruction. -/
inductive DecodeError where
  /-- Bit 7 is 0: a start byte, which "can only be byte 0 of a frame" (R97), so it is never byte 1. -/
  | startByte
deriving DecidableEq, Repr

/-- Byte 1 bits [4:0], the function identifier (R92). -/
def identOf (b : Byte) : Ident := b.extractLsb' 0 5

/-- Byte 1 bits [6:5], the length code (R92). -/
def lenCodeOf (b : Byte) : LenCode := b.extractLsb' 5 2

/-- The continuation marker, bit 7 of a byte (R97). -/
def isContinuation (b : Byte) : Bool := b.getLsbD 7

/-- `byte1 = 0x80 | (length_code << 5) | (function_id & 0x1f)` (R92). -/
def byte1 (func : Ident) (lc : LenCode) : Byte :=
  0x80#8 ||| (lc.setWidth 8 <<< 5) ||| func.setWidth 8

/-- The row of format TXB1 with host-side identifier `f` (R310 to R341). -/
def txInstr (f : Ident) (lc : LenCode) : Instr :=
  match f.toNat with
  | 0 => .tx00 lc
  | 1 => .tx01 lc
  | 2 => .tx02 lc
  | 3 => .tx03 lc
  | 4 => .tx04 lc
  | 5 => .tx05 lc
  | 6 => .tx06 lc
  | 7 => .tx07 lc
  | 8 => .tx08 lc
  | 9 => .tx09 lc
  | 10 => .tx0a lc
  | 11 => .tx0b lc
  | 12 => .tx0c lc
  | 13 => .tx0d lc
  | 14 => .tx0e lc
  | 15 => .tx0f lc
  | 16 => .tx10 lc
  | 17 => .tx11 lc
  | 18 => .tx12 lc
  | 19 => .tx13 lc
  | 20 => .tx14 lc
  | 21 => .tx15 lc
  | 22 => .tx16 lc
  | 23 => .tx17 lc
  | 24 => .tx18 lc
  | 25 => .tx19 lc
  | 26 => .tx1a lc
  | 27 => .tx1b lc
  | 28 => .tx1c lc
  | 29 => .tx1d lc
  | 30 => .tx1e lc
  | _ => .tx1f lc

/-- The row of format RXB1 with drive-side identifier `f` (R200 to R231). -/
def rxInstr (f : Ident) (lc : LenCode) : Instr :=
  match f.toNat with
  | 0 => .rx00 lc
  | 1 => .rx01 lc
  | 2 => .rx02 lc
  | 3 => .rx03 lc
  | 4 => .rx04 lc
  | 5 => .rx05 lc
  | 6 => .rx06 lc
  | 7 => .rx07 lc
  | 8 => .rx08 lc
  | 9 => .rx09 lc
  | 10 => .rx0a lc
  | 11 => .rx0b lc
  | 12 => .rx0c lc
  | 13 => .rx0d lc
  | 14 => .rx0e lc
  | 15 => .rx0f lc
  | 16 => .rx10 lc
  | 17 => .rx11 lc
  | 18 => .rx12 lc
  | 19 => .rx13 lc
  | 20 => .rx14 lc
  | 21 => .rx15 lc
  | 22 => .rx16 lc
  | 23 => .rx17 lc
  | 24 => .rx18 lc
  | 25 => .rx19 lc
  | 26 => .rx1a lc
  | 27 => .rx1b lc
  | 28 => .rx1c lc
  | 29 => .rx1d lc
  | 30 => .rx1e lc
  | _ => .rx1f lc

/-- `decode_cmd` (R105), total on all words: the seven legal rows are checked first, every other word is illegal. -/
def decodeCmd (w : Word) : Instr :=
  let func : Ident := w.extractLsb' 8 5
  let lc : LenCode := w.extractLsb' 16 2
  if w.extractLsb' 3 5 != 0#5 || w.extractLsb' 13 3 != 0#3 || w.extractLsb' 18 14 != 0#14 then .illegal w
  else
    match (w.extractLsb' 0 3).toNat with
    | 0 => .encode func lc
    | 1 => .write func lc
    | 2 => .read func lc
    | 3 => .gread func lc
    | 4 => .await func lc
    | 5 => .recv func lc
    | 6 => .flush func lc
    | _ => .illegal w

/-- The outbound identifier in a frame's byte 1 (R92, format TXB1). -/
def decodeTx (b : Byte) : Except DecodeError Instr :=
  if isContinuation b then .ok (txInstr (identOf b) (lenCodeOf b)) else .error .startByte

/-- The inbound identifier in a frame's byte 1 (R92, format RXB1). -/
def decodeRx (b : Byte) : Except DecodeError Instr :=
  if isContinuation b then .ok (rxInstr (identOf b) (lenCodeOf b)) else .error .startByte

/-- The decoder, over the three spaces. -/
def decode (c : Code) : Except DecodeError Instr :=
  match c with
  | .cmd w => .ok (decodeCmd w)
  | .tx b => decodeTx b
  | .rx b => decodeRx b

/-- The command word with these fields, reserved bits 0 (R100, R111). -/
def cmdWord (op : BitVec 3) (func : Ident) (lc : LenCode) : Word :=
  0#14 ++ lc ++ 0#3 ++ func ++ 0#5 ++ op

/-- The encoder, from the formats of R92 and R100. -/
def encode (i : Instr) : Code :=
  match i with
  | .encode func lc => .cmd (cmdWord 0#3 func lc)
  | .write func lc => .cmd (cmdWord 1#3 func lc)
  | .read h lc => .cmd (cmdWord 2#3 h lc)
  | .gread g lc => .cmd (cmdWord 3#3 g lc)
  | .await d lc => .cmd (cmdWord 4#3 d lc)
  | .recv func lc => .cmd (cmdWord 5#3 func lc)
  | .flush func lc => .cmd (cmdWord 6#3 func lc)
  | .illegal w => .cmd w
  | .tx00 lc => .tx (byte1 0x00#5 lc)
  | .tx01 lc => .tx (byte1 0x01#5 lc)
  | .tx02 lc => .tx (byte1 0x02#5 lc)
  | .tx03 lc => .tx (byte1 0x03#5 lc)
  | .tx04 lc => .tx (byte1 0x04#5 lc)
  | .tx05 lc => .tx (byte1 0x05#5 lc)
  | .tx06 lc => .tx (byte1 0x06#5 lc)
  | .tx07 lc => .tx (byte1 0x07#5 lc)
  | .tx08 lc => .tx (byte1 0x08#5 lc)
  | .tx09 lc => .tx (byte1 0x09#5 lc)
  | .tx0a lc => .tx (byte1 0x0a#5 lc)
  | .tx0b lc => .tx (byte1 0x0b#5 lc)
  | .tx0c lc => .tx (byte1 0x0c#5 lc)
  | .tx0d lc => .tx (byte1 0x0d#5 lc)
  | .tx0e lc => .tx (byte1 0x0e#5 lc)
  | .tx0f lc => .tx (byte1 0x0f#5 lc)
  | .tx10 lc => .tx (byte1 0x10#5 lc)
  | .tx11 lc => .tx (byte1 0x11#5 lc)
  | .tx12 lc => .tx (byte1 0x12#5 lc)
  | .tx13 lc => .tx (byte1 0x13#5 lc)
  | .tx14 lc => .tx (byte1 0x14#5 lc)
  | .tx15 lc => .tx (byte1 0x15#5 lc)
  | .tx16 lc => .tx (byte1 0x16#5 lc)
  | .tx17 lc => .tx (byte1 0x17#5 lc)
  | .tx18 lc => .tx (byte1 0x18#5 lc)
  | .tx19 lc => .tx (byte1 0x19#5 lc)
  | .tx1a lc => .tx (byte1 0x1a#5 lc)
  | .tx1b lc => .tx (byte1 0x1b#5 lc)
  | .tx1c lc => .tx (byte1 0x1c#5 lc)
  | .tx1d lc => .tx (byte1 0x1d#5 lc)
  | .tx1e lc => .tx (byte1 0x1e#5 lc)
  | .tx1f lc => .tx (byte1 0x1f#5 lc)
  | .rx00 lc => .rx (byte1 0x00#5 lc)
  | .rx01 lc => .rx (byte1 0x01#5 lc)
  | .rx02 lc => .rx (byte1 0x02#5 lc)
  | .rx03 lc => .rx (byte1 0x03#5 lc)
  | .rx04 lc => .rx (byte1 0x04#5 lc)
  | .rx05 lc => .rx (byte1 0x05#5 lc)
  | .rx06 lc => .rx (byte1 0x06#5 lc)
  | .rx07 lc => .rx (byte1 0x07#5 lc)
  | .rx08 lc => .rx (byte1 0x08#5 lc)
  | .rx09 lc => .rx (byte1 0x09#5 lc)
  | .rx0a lc => .rx (byte1 0x0a#5 lc)
  | .rx0b lc => .rx (byte1 0x0b#5 lc)
  | .rx0c lc => .rx (byte1 0x0c#5 lc)
  | .rx0d lc => .rx (byte1 0x0d#5 lc)
  | .rx0e lc => .rx (byte1 0x0e#5 lc)
  | .rx0f lc => .rx (byte1 0x0f#5 lc)
  | .rx10 lc => .rx (byte1 0x10#5 lc)
  | .rx11 lc => .rx (byte1 0x11#5 lc)
  | .rx12 lc => .rx (byte1 0x12#5 lc)
  | .rx13 lc => .rx (byte1 0x13#5 lc)
  | .rx14 lc => .rx (byte1 0x14#5 lc)
  | .rx15 lc => .rx (byte1 0x15#5 lc)
  | .rx16 lc => .rx (byte1 0x16#5 lc)
  | .rx17 lc => .rx (byte1 0x17#5 lc)
  | .rx18 lc => .rx (byte1 0x18#5 lc)
  | .rx19 lc => .rx (byte1 0x19#5 lc)
  | .rx1a lc => .rx (byte1 0x1a#5 lc)
  | .rx1b lc => .rx (byte1 0x1b#5 lc)
  | .rx1c lc => .rx (byte1 0x1c#5 lc)
  | .rx1d lc => .rx (byte1 0x1d#5 lc)
  | .rx1e lc => .rx (byte1 0x1e#5 lc)
  | .rx1f lc => .rx (byte1 0x1f#5 lc)

/-- What the decoder reads from the table's bits. A row of format CMD is a 32-bit word; a row of 8 bits is byte 1 of a
frame, which has bit 7 set (R97), and is read in the one direction in which the block decodes bytes, inbound (log 9):
the 32 patterns of TXB1 are the 32 patterns of RXB1 (R98). Anything else is a command word, zero above its bits. -/
def decodeTableWord (nbits w : Nat) : Option Instr :=
  if nbits ≤ 8 && w.testBit 7 then (decodeRx (BitVec.ofNat 8 w)).toOption
  else (decode (.cmd (BitVec.ofNat 32 w))).toOption

end Sys2Proof
end

