-- ==== Sys2Proof/Machine/Codec.lean ====
section
/-! DEFINITION. The Frame Codec (40_frame_codec.md): the outbound frame, the modulo-128 checksum and the identifier
guard. Pure functions over bytes. -/

namespace Sys2Proof.Machine

/-- The sum of bytes as an unbounded integer, high bits included (R133). -/
def sumBytes (bs : List Byte) : Nat := (bs.map BitVec.toNat).sum

/-- `cks7` (R133): the sum of the bytes modulo 128, 7 bits. -/
def cks7 (bs : List Byte) : Val7 := BitVec.ofNat 7 (sumBytes bs)

/-- A 7-bit value with the continuation marker: `0x80 | (value & 0x7f)` (R93, R94). -/
def contByte (v : Val7) : Byte := 0x80#8 ||| v.setWidth 8

/-- A frame without its checksum byte (R131): byte 0, byte 1 and the payload bytes. -/
def frameBody (drive : DriveAddr) (func : Ident) (lc : LenCode) (vals : List Val7) : List Byte :=
  drive.setWidth 8 :: byte1 func lc :: vals.map contByte

/-- `encode_frame` (R131), with `vals` a list of `lc + 1` values. -/
def encodeFrame (drive : DriveAddr) (func : Ident) (lc : LenCode) (vals : List Val7) : List Byte :=
  let body := frameBody drive func lc vals
  body ++ [contByte (cks7 body)]

/-- `cks_ok` (R134): `((sum over i < n-1 of frame[i]) ^ frame[n-1]) & 0x7f == 0`. -/
def cksOk (frame : List Byte) : Bool :=
  ((sumBytes frame.dropLast) ^^^ (frame.getLastD 0).toNat) &&& 0x7f == 0

/-- `verify_func_id` (R138), the general-read guard: membership in `GREAD_CODES` (R9). These are also the typed
drive-side identifiers (R99, R300). -/
def verifyFuncId (g : Ident) : Bool :=
  (0x10#5 ≤ g && g ≤ 0x1b#5) || g == 0x1e#5

end Sys2Proof.Machine
end

