-- ==== Sys2Proof/Machine/Operands.lean ====
section
/-! DEFINITION. The operand forms: the fields of CONFIG and PAYLOAD (R22 to R27), the payload values of a command
(R27, R263), the frame views (R38, R39), and the values decoded from an inbound frame (R192 to R196). -/

namespace Sys2Proof.Machine

/-! ## Host-side operands -/

/-- The word the host reads at CONFIG (R22 to R26): reserved bits read 0. -/
def configWord (s : State) : Word :=
  0#12 ++ s.maxAttempts ++ 0#6 ++ BitVec.ofBool s.flushOnSend ++ BitVec.ofBool s.debug ++ 0#3 ++ s.driveAddr

/-- MAX_ATTEMPTS is write-any-read-legal: "A write of 0 to this field stores 1" (R25). -/
def legalMaxAttempts (v : BitVec 4) : BitVec 4 := if v = 0 then 1 else v

/-- A write to CONFIG that is not dropped: the writable fields take the written bits (R64). -/
def setConfig (s : State) (v : Word) : State :=
  { s with
    driveAddr := v.extractLsb' 0 5
    debug := v.getLsbD 8
    flushOnSend := v.getLsbD 9
    maxAttempts := legalMaxAttempts (v.extractLsb' 16 4) }

/-- The word the host reads at PAYLOAD (R27): bits 7, 15, 23 and 31 read 0. -/
def payloadWord (s : State) : Word :=
  0#1 ++ s.p3 ++ 0#1 ++ s.p2 ++ 0#1 ++ s.p1 ++ 0#1 ++ s.p0

/-- A write to PAYLOAD that is not dropped (R27, R64). -/
def setPayload (s : State) (v : Word) : State :=
  { s with
    p0 := v.extractLsb' 0 7
    p1 := v.extractLsb' 8 7
    p2 := v.extractLsb' 16 7
    p3 := v.extractLsb' 24 7 }

/-- The payload values P0 to P(lc) a command sends (R27, R103): `k = lc + 1` of them. -/
def payloadValues (s : State) (lc : LenCode) : List Val7 :=
  [s.p0, s.p1, s.p2, s.p3].take (lc.toNat + 1)

/-- `build(c)` (R263): the frame of ENCODE, WRITE and READ, from CONFIG and PAYLOAD as they are. -/
def buildFrame (s : State) (func : Ident) (lc : LenCode) : List Byte :=
  encodeFrame s.driveAddr func lc (payloadValues s lc)

/-- The request frame of a general read of `g`, carrying host-side identifier `h` (R260 GREAD arm, R301): length code
0 and `g` as its one payload value. -/
def generalReadFrame (s : State) (h : Ident) (g : Ident) : List Byte :=
  encodeFrame s.driveAddr h 0 [g.setWidth 7]

/-- TXF_LO and RXF_LO (R38, R39, R69): byte i of the frame in lane i; a byte the frame does not have reads 0. -/
def frameLo (f : List Byte) : Word :=
  f.getD 3 0 ++ f.getD 2 0 ++ f.getD 1 0 ++ f.getD 0 0

/-- TXF_HI and RXF_HI (R38, R39, R69): bytes 4 to 6 and, in bits [31:24], the length. -/
def frameHi (f : List Byte) : Word :=
  BitVec.ofNat 8 f.length ++ f.getD 6 0 ++ f.getD 5 0 ++ f.getD 4 0

/-! ## Values decoded from an inbound frame -/

/-- The payload bytes 2 to n-2 of a frame (R93, R191). -/
def payloadOf (f : List Byte) : List Byte := (f.drop 2).dropLast

/-- The 7 payload bits of a byte (R90). -/
def low7 (b : Byte) : Val7 := b.extractLsb' 0 7

/-- The first byte of `sdec` (R192): the low 7 bits shifted left by 1 in a byte, sign-extended, shifted right
arithmetically by 1. -/
def signedHead (b : Byte) : Int := ((b &&& 0x7f#8) <<< 1).toInt >>> 1

/-- `sdec` (R192): the SignedInteger of payload bytes. On unbounded integers `(v << 7) | x` with `x < 128` is
`v * 128 + x`. -/
def sdec (ps : List Byte) : Int :=
  match ps with
  | [] => 0
  | b :: rest => rest.foldl (fun v x => v * 128 + ((low7 x).toNat : Int)) (signedHead b)

/-- `{a[6:0], b[6:0]}`, a 14-bit unsigned value, zero-extended to 32 bits (R193). -/
def pair14 (a b : Byte) : Word := (low7 a ++ low7 b).setWidth 32

/-- `gear(ps)` (R193): the two 14-bit values of four payload bytes. -/
def gear (ps : List Byte) : Word × Word :=
  (pair14 (ps.getD 0 0) (ps.getD 1 0), pair14 (ps.getD 2 0) (ps.getD 3 0))

/-- `scalar7(ps)` (R194). -/
def scalar7 (ps : List Byte) : Word := (low7 (ps.getD 0 0)).setWidth 32

/-- The alarm code of a status field byte, bits [4:2] (R195). -/
def alarmCode (b : Byte) : BitVec 3 := b.extractLsb' 2 3

/-- `status(b)` (R195): in_position is bit 0 inverted, and bit 7 of the result flags a reserved alarm code. -/
def statusRecord (b : Byte) : Word :=
  0#24 ++ BitVec.ofBool (4#3 < alarmCode b) ++ BitVec.ofBool (b.getLsbD 6) ++ BitVec.ofBool (b.getLsbD 5)
    ++ alarmCode b ++ BitVec.ofBool (b.getLsbD 1) ++ BitVec.ofBool (!b.getLsbD 0)

/-- The servo_mode of a config field byte, bits [4:3] (R196). -/
def servoMode (b : Byte) : BitVec 2 := b.extractLsb' 3 2

/-- `config(b)` (R196): the seven bits as received, and bit 7 flags the reserved servo_mode 3. -/
def configRecord (b : Byte) : Word :=
  0#24 ++ BitVec.ofBool (servoMode b == 3#2) ++ low7 b

/-- A decoded value: RES_TAG, RESULT0 and RESULT1 (R191: `Value(tag, r0, r1)`). -/
structure Value where
  tag : ResTag
  r0 : Word
  r1 : Word
deriving DecidableEq, Repr

/-- What the Value Decoder says of a frame (R191). -/
inductive Verdict where
  | value (v : Value)
  | lengthMismatch
  | unallowed
  | unknown
deriving DecidableEq, Repr

/-- The length check comes before any field is extracted (R197). -/
def requireLength (lc want : LenCode) (v : Value) : Verdict :=
  if lc ≠ want then .lengthMismatch else .value v

/-- The verdict on a Scalar7 frame (R216 to R223). -/
def scalarVerdict (lc : LenCode) (f : List Byte) : Verdict :=
  requireLength lc 0 ⟨.scalar7, scalar7 (payloadOf f), 0⟩

/-- The verdict on a GearPair frame (R224). -/
def gearVerdict (lc : LenCode) (f : List Byte) : Verdict :=
  let g := gear (payloadOf f)
  requireLength lc 3 ⟨.gearPair, g.1, g.2⟩

/-- The raw field byte of a record, RESULT1 (R195, R196, R37). -/
def rawField (f : List Byte) : Word := (low7 ((payloadOf f).getD 0 0)).setWidth 32

/-- The verdict on a StatusRecord frame (R225). -/
def statusVerdict (lc : LenCode) (f : List Byte) : Verdict :=
  requireLength lc 0 ⟨.statusRecord, statusRecord ((payloadOf f).getD 0 0), rawField f⟩

/-- The verdict on a ConfigRecord frame (R226). -/
def configVerdict (lc : LenCode) (f : List Byte) : Verdict :=
  requireLength lc 0 ⟨.configRecord, configRecord ((payloadOf f).getD 0 0), rawField f⟩

/-- The verdict on a SignedInteger frame (R227, R230): every length code is accepted (R197); RESULT1 is `k = n - 3`. -/
def signedVerdict (f : List Byte) : Verdict :=
  .value ⟨.signed, BitVec.ofInt 32 (sdec (payloadOf f)), BitVec.ofNat 32 (f.length - Config.frameOverhead)⟩

end Sys2Proof.Machine
end

