-- ==== Sys2Proof/Machine/Reader.lean ====
section
/-! DEFINITION. The Frame Reader (41_frame_reader.md): one answer to one `TRead1()`. -/

namespace Sys2Proof.Machine

/-- What a `TRead1()` can be answered with (R71). -/
inductive ReadAnswer where
  | byte (b : Byte)
  | timeout
  | fail
deriving DecidableEq, Repr

/-- How an attempt ends (R161). -/
inductive Outcome where
  | frame (f : List Byte)
  | timeout
  | fail
deriving DecidableEq, Repr

/-- Whether a non-empty accumulator is a whole frame: byte 1 is there and the length is the one its length code
announces (R95, R96, R163). -/
def frameComplete (acc : List Byte) : Bool :=
  2 ≤ acc.length && acc.length == Config.minFrame + (lenCodeOf (acc.getD 1 0)).toNat

/-- The accumulator after a byte of a frame, and the outcome if that byte ends the frame (R163, R166). -/
def endOrGoOn (acc : List Byte) : List Byte × Option Outcome :=
  if frameComplete acc then ([], some (.frame acc)) else (acc, none)

/-- `reader_step` (R163): the new accumulator and the attempt's outcome, none while the attempt goes on. A start byte
restarts (R164); a continuation byte is dropped in HUNT (R165) and appended in COLLECT (R166). -/
def readerStep (acc : List Byte) (ans : ReadAnswer) : List Byte × Option Outcome :=
  match ans with
  | .timeout => ([], some .timeout)
  | .fail => ([], some .fail)
  | .byte b =>
    if isContinuation b = false then endOrGoOn [b]
    else
      match acc with
      | [] => ([], none)
      | a :: as => endOrGoOn (a :: as ++ [b])

/-- The reader over a run of bytes, each the answer to one `TRead1()`, up to the first outcome: what is left of the
accumulator, the outcome if there is one, and the bytes not read (R160, R161, R173). -/
def readBytes (acc : List Byte) (bs : List Byte) : List Byte × Option Outcome × List Byte :=
  match bs with
  | [] => (acc, none, [])
  | b :: rest =>
    match readerStep acc (.byte b) with
    | (acc', none) => readBytes acc' rest
    | (acc', some o) => (acc', some o, rest)

end Sys2Proof.Machine
end

