-- ==== Sys2Proof/Machine/Ops.lean ====
section
/-! DEFINITION. The named operations of the session over the state: observation, the transport requests, attempts,
retries, and the completion of a command, which is the block's trap entry (60_exceptions.md rule R356); the start of
the next command (`startCommand`, over `clearForStart`) is its return (R363). -/

namespace Sys2Proof.Machine

/-- The transport request outstanding, a function of `S.ses` alone (R40, R44). -/
def State.request (s : State) : Option TRequest :=
  match s.ses with
  | .idle => none
  | .flushing => some .flush
  | .writing => some (.write s.txf)
  | .reading => some .read1

/-- `Emit(dir, bytes)` when CONFIG.DEBUG = 1 (R380, R381). -/
def emit (d : Dir) (bytes : List Byte) (s : State) : State :=
  { s with obs := if s.debug then s.obs ++ [⟨d, bytes⟩] else s.obs }

/-- `finish(e, val)` (R356), the completion of a command: the error code, the result if there is one, the session back
to IDLE, BUSY 0 and DONE 1. -/
def finish (e : ErrCode) (val : Option Value) (s : State) : State :=
  let s' := { s with err := e, acc := [], ses := .idle, busy := false, done := true }
  match e, val with
  | .ok, some v => { s' with resTag := v.tag, result0 := v.r0, result1 := v.r1 }
  | _, _ => s'

/-- `begin_attempt()` (R266). -/
def beginAttempt (s : State) : State :=
  { s with busy := true, acc := [], ses := .reading }

/-- `issue_write()` (R265): `TWrite(S.txf)` becomes outstanding, and is observed. -/
def issueWrite (s : State) : State :=
  emit .tx s.txf { s with ses := .writing }

/-- `send()` (R264). -/
def send (s : State) : State :=
  let s' := { s with busy := true }
  if s.flushOnSend then { s' with ses := .flushing } else issueWrite s'

/-- `retry_or_exhaust()` (R272): a retry re-reads, it does not re-send (R275). -/
def retryOrExhaust (s : State) : State :=
  if s.attempts < s.maxAttempts then beginAttempt s else finish (exhaustCode s) none s

/-- A write to CONFIG, PAYLOAD or COMMAND dropped because the block is busy (R420). -/
def dropWrite (s : State) : State := { s with overrun := true }

/-- Latches the command (R41, R260). -/
def latchOp (o : Op) (s : State) : State := { s with op := o }

/-- Latches the expected drive-side identifier (R42, R260). -/
def expect (d : Ident) (s : State) : State := { s with expf := d }

/-- Stores a built frame in `S.txf` (R263). -/
def storeFrame (f : List Byte) (s : State) : State := { s with txf := f }

/-- A host write to COMMAND (R28, R260, R420): dropped while BUSY = 1, otherwise the command `k` starts, after
`clear_for_start()`. -/
def startCommand (s : State) (k : State → Host.Outcome State Fault Refusal) : Host.Outcome State Fault Refusal :=
  if s.busy then .next (dropWrite s) else k (clearForStart s)

/-- The bookkeeping of a frame completed by an attempt (R271): `S.rxf`, RX_ANY, RX_FUNC and the observation record. -/
def noteFrame (f : List Byte) (s : State) : State :=
  emit .rx f { s with rxf := f, rxAny := true, rxFunc := identOf (f.getD 1 0) }

/-- A failed attempt of the command (R270): RECV ends with the error `e`, every other command retries or is
exhausted. -/
def failAttempt (e : ErrCode) (s : State) : State :=
  if s.op = .recv then finish e none s else retryOrExhaust s

/-- What the host reads at a slot (R21, R62 to R64): COMMAND and the unmapped slots read 0. -/
def readSlot (s : State) (idx : Slot) : Word :=
  match idx.toNat with
  | 0 => configWord s
  | 1 => payloadWord s
  | 3 => statusWord s
  | 4 => s.result0
  | 5 => s.result1
  | 6 => frameLo s.txf
  | 7 => frameHi s.txf
  | 8 => frameLo s.rxf
  | 9 => frameHi s.rxf
  | _ => 0

/-- Reset (R400, R401): every element of state at its reset value in one step, whatever was in progress (R402). The
constants and the environment keep theirs. -/
def resetBlock (s : State) : State :=
  { State.reset with
    hostMap := s.hostMap, greadHostFunc := s.greadHostFunc
    env := s.env, again := s.again, obs := s.obs, rdata := s.rdata }

end Sys2Proof.Machine
end

