-- ==== Sys2Proof/Machine/Tx.lean ====
section
/-! DEFINITION. The host-side identifiers tx.0x00 to tx.0x1f (43_command_session.md section 4, rules R310 to R341): what
the block does with an outbound identifier under the command it has latched in `S.op` (log 6). The bodies of ENCODE,
WRITE, READ and GREAD run through them. -/

namespace Sys2Proof.Machine

/-- An outbound frame with host-side identifier `h` and length code `lc`, under the latched command (R260): ENCODE
builds it and completes (R280), WRITE builds and sends it (R281), neither validating `h` (R140); READ looks `h` up in
`HOST_MAP` and completes with UNKNOWN_FUNC where it has no entry, else builds and sends (R282); GREAD builds and sends
the general-read request for the identifier it expects (R283). The other commands build no frame, and nothing happens
(R284 to R286; log 6). -/
def txPerform (h : Ident) (lc : LenCode) (s : State) : State :=
  match s.op with
  | .encode => finish .ok none (storeFrame (buildFrame s h lc) s)
  | .write => send (storeFrame (buildFrame s h lc) s)
  | .read =>
    match s.hostMap[h.toFin] with
    | none => finish .unknownFunc none s
    | some d => send (storeFrame (buildFrame s h lc) (expect d s))
  | .gread => send (storeFrame (generalReadFrame s h s.expf) s)
  | .await => s
  | .recv => s
  | .flush => s

/-- tx.0x00, Set_Origin (R310). -/
def execTx00 (lc : LenCode) (s : State) : Host.Outcome State Fault Refusal :=
  .next (txPerform 0x00#5 lc s)

/-- tx.0x01, Go_Absolute_Pos (R311). -/
def execTx01 (lc : LenCode) (s : State) : Host.Outcome State Fault Refusal :=
  .next (txPerform 0x01#5 lc s)

/-- tx.0x02, Make_LinearLine (R312). -/
def execTx02 (lc : LenCode) (s : State) : Host.Outcome State Fault Refusal :=
  .next (txPerform 0x02#5 lc s)

/-- tx.0x03, Go_Relative_Pos (R313). -/
def execTx03 (lc : LenCode) (s : State) : Host.Outcome State Fault Refusal :=
  .next (txPerform 0x03#5 lc s)

/-- tx.0x04, Make_CircularArc (R314). -/
def execTx04 (lc : LenCode) (s : State) : Host.Outcome State Fault Refusal :=
  .next (txPerform 0x04#5 lc s)

/-- tx.0x05, Assign_Drive_ID (R315). -/
def execTx05 (lc : LenCode) (s : State) : Host.Outcome State Fault Refusal :=
  .next (txPerform 0x05#5 lc s)

/-- tx.0x06, Read_Drive_ID (R316). -/
def execTx06 (lc : LenCode) (s : State) : Host.Outcome State Fault Refusal :=
  .next (txPerform 0x06#5 lc s)

/-- tx.0x07, Set_Drive_Config (R317). -/
def execTx07 (lc : LenCode) (s : State) : Host.Outcome State Fault Refusal :=
  .next (txPerform 0x07#5 lc s)

/-- tx.0x08, Read_Drive_Config (R318). -/
def execTx08 (lc : LenCode) (s : State) : Host.Outcome State Fault Refusal :=
  .next (txPerform 0x08#5 lc s)

/-- tx.0x09, Read_Drive_Status (R319). -/
def execTx09 (lc : LenCode) (s : State) : Host.Outcome State Fault Refusal :=
  .next (txPerform 0x09#5 lc s)

/-- tx.0x0a, Turn_ConstSpeed (R320). -/
def execTx0a (lc : LenCode) (s : State) : Host.Outcome State Fault Refusal :=
  .next (txPerform 0x0a#5 lc s)

/-- tx.0x0b, Square_Wave (R321). -/
def execTx0b (lc : LenCode) (s : State) : Host.Outcome State Fault Refusal :=
  .next (txPerform 0x0b#5 lc s)

/-- tx.0x0c, Sin_Wave (R322). -/
def execTx0c (lc : LenCode) (s : State) : Host.Outcome State Fault Refusal :=
  .next (txPerform 0x0c#5 lc s)

/-- tx.0x0d, SS_Frequency (R323). -/
def execTx0d (lc : LenCode) (s : State) : Host.Outcome State Fault Refusal :=
  .next (txPerform 0x0d#5 lc s)

/-- tx.0x0e, General_Read (R324). GREAD_HOST_FUNC by default (R301). -/
def execTx0e (lc : LenCode) (s : State) : Host.Outcome State Fault Refusal :=
  .next (txPerform 0x0e#5 lc s)

/-- tx.0x0f, ForMotorDefine (R325). -/
def execTx0f (lc : LenCode) (s : State) : Host.Outcome State Fault Refusal :=
  .next (txPerform 0x0f#5 lc s)

/-- tx.0x10, Set_MainGain (R326). -/
def execTx10 (lc : LenCode) (s : State) : Host.Outcome State Fault Refusal :=
  .next (txPerform 0x10#5 lc s)

/-- tx.0x11, Set_SpeedGain (R327). -/
def execTx11 (lc : LenCode) (s : State) : Host.Outcome State Fault Refusal :=
  .next (txPerform 0x11#5 lc s)

/-- tx.0x12, Set_IntGain (R328). -/
def execTx12 (lc : LenCode) (s : State) : Host.Outcome State Fault Refusal :=
  .next (txPerform 0x12#5 lc s)

/-- tx.0x13, Set_TrqCons (R329). -/
def execTx13 (lc : LenCode) (s : State) : Host.Outcome State Fault Refusal :=
  .next (txPerform 0x13#5 lc s)

/-- tx.0x14, Set_HighSpeed (R330). -/
def execTx14 (lc : LenCode) (s : State) : Host.Outcome State Fault Refusal :=
  .next (txPerform 0x14#5 lc s)

/-- tx.0x15, Set_HighAccel (R331). -/
def execTx15 (lc : LenCode) (s : State) : Host.Outcome State Fault Refusal :=
  .next (txPerform 0x15#5 lc s)

/-- tx.0x16, Set_Pos_OnRange (R332). -/
def execTx16 (lc : LenCode) (s : State) : Host.Outcome State Fault Refusal :=
  .next (txPerform 0x16#5 lc s)

/-- tx.0x17, Set_GearNumber (R333). -/
def execTx17 (lc : LenCode) (s : State) : Host.Outcome State Fault Refusal :=
  .next (txPerform 0x17#5 lc s)

/-- tx.0x18, Read_MainGain (R334). -/
def execTx18 (lc : LenCode) (s : State) : Host.Outcome State Fault Refusal :=
  .next (txPerform 0x18#5 lc s)

/-- tx.0x19, Read_SpeedGain (R335). -/
def execTx19 (lc : LenCode) (s : State) : Host.Outcome State Fault Refusal :=
  .next (txPerform 0x19#5 lc s)

/-- tx.0x1a, Read_IntGain (R336). -/
def execTx1a (lc : LenCode) (s : State) : Host.Outcome State Fault Refusal :=
  .next (txPerform 0x1a#5 lc s)

/-- tx.0x1b, Read_TrqCons (R337). -/
def execTx1b (lc : LenCode) (s : State) : Host.Outcome State Fault Refusal :=
  .next (txPerform 0x1b#5 lc s)

/-- tx.0x1c, Read_HighSpeed (R338). -/
def execTx1c (lc : LenCode) (s : State) : Host.Outcome State Fault Refusal :=
  .next (txPerform 0x1c#5 lc s)

/-- tx.0x1d, Read_HighAccel (R339). -/
def execTx1d (lc : LenCode) (s : State) : Host.Outcome State Fault Refusal :=
  .next (txPerform 0x1d#5 lc s)

/-- tx.0x1e, Read_Pos_OnRange (R340). -/
def execTx1e (lc : LenCode) (s : State) : Host.Outcome State Fault Refusal :=
  .next (txPerform 0x1e#5 lc s)

/-- tx.0x1f, Read_GearNumber (R341). -/
def execTx1f (lc : LenCode) (s : State) : Host.Outcome State Fault Refusal :=
  .next (txPerform 0x1f#5 lc s)

/-- The meaning of the host-side identifier `h` (R310 to R341). -/
def txMeaning (h : Ident) (lc : LenCode) (s : State) : Host.Outcome State Fault Refusal :=
  match h.toNat with
  | 0 => execTx00 lc s
  | 1 => execTx01 lc s
  | 2 => execTx02 lc s
  | 3 => execTx03 lc s
  | 4 => execTx04 lc s
  | 5 => execTx05 lc s
  | 6 => execTx06 lc s
  | 7 => execTx07 lc s
  | 8 => execTx08 lc s
  | 9 => execTx09 lc s
  | 10 => execTx0a lc s
  | 11 => execTx0b lc s
  | 12 => execTx0c lc s
  | 13 => execTx0d lc s
  | 14 => execTx0e lc s
  | 15 => execTx0f lc s
  | 16 => execTx10 lc s
  | 17 => execTx11 lc s
  | 18 => execTx12 lc s
  | 19 => execTx13 lc s
  | 20 => execTx14 lc s
  | 21 => execTx15 lc s
  | 22 => execTx16 lc s
  | 23 => execTx17 lc s
  | 24 => execTx18 lc s
  | 25 => execTx19 lc s
  | 26 => execTx1a lc s
  | 27 => execTx1b lc s
  | 28 => execTx1c lc s
  | 29 => execTx1d lc s
  | 30 => execTx1e lc s
  | _ => execTx1f lc s

end Sys2Proof.Machine
end

