-- ==== Sys2Proof/Machine/Command.lean ====
section
/-! DEFINITION. The commands (43_command_session.md rules R260 and R280 to R287): what a host write of the command word to
COMMAND does, the drop while busy (R420) included. -/

namespace Sys2Proof.Machine

/-- ENCODE (R280): builds the frame of `func` into `S.txf` and completes; the latched ENCODE makes tx.`func` do so. -/
def execEncode (func : Ident) (lc : LenCode) (s : State) : Host.Outcome State Fault Refusal :=
  startCommand s fun s' => txMeaning func lc (latchOp .encode s')

/-- WRITE (R281): builds the frame of `func` and sends it; awaits nothing. -/
def execWrite (func : Ident) (lc : LenCode) (s : State) : Host.Outcome State Fault Refusal :=
  startCommand s fun s' => txMeaning func lc (latchOp .write s')

/-- READ (R282): the request for host-side identifier `h`; UNKNOWN_FUNC at once where `HOST_MAP` has no entry. -/
def execRead (h : Ident) (lc : LenCode) (s : State) : Host.Outcome State Fault Refusal :=
  startCommand s fun s' => txMeaning h lc (latchOp .read s')

/-- GREAD (R283): UNKNOWN_FUNC at once where the guard fails; else the general-read request for `g`, carried by the
host-side identifier `GREAD_HOST_FUNC` with length code 0. LC is ignored. -/
def execGread (g : Ident) (_lc : LenCode) (s : State) : Host.Outcome State Fault Refusal :=
  startCommand s fun s' =>
    if verifyFuncId g then txMeaning s'.greadHostFunc 0 (expect g (latchOp .gread s'))
    else .next (finish .unknownFunc none (latchOp .gread s'))

/-- AWAIT (R284): UNKNOWN_FUNC at once where the guard fails; else one attempt begins, with nothing sent. LC is
ignored. -/
def execAwait (d : Ident) (_lc : LenCode) (s : State) : Host.Outcome State Fault Refusal :=
  startCommand s fun s' =>
    if verifyFuncId d then .next (beginAttempt (expect d (latchOp .await s')))
    else .next (finish .unknownFunc none (latchOp .await s'))

/-- RECV (R285): one attempt begins. FUNC and LC are ignored. -/
def execRecv (_func : Ident) (_lc : LenCode) (s : State) : Host.Outcome State Fault Refusal :=
  startCommand s fun s' => .next (beginAttempt (latchOp .recv s'))

/-- FLUSH (R286): `TFlush()` becomes outstanding, whatever FLUSH_ON_SEND is. FUNC and LC are ignored. -/
def execFlush (_func : Ident) (_lc : LenCode) (s : State) : Host.Outcome State Fault Refusal :=
  startCommand s fun s' => .next { latchOp .flush s' with busy := true, ses := .flushing }

/-- An illegal command word (R287): completes with ILLEGAL_CMD, nothing latched. -/
def execIllegal (_w : Word) (s : State) : Host.Outcome State Fault Refusal :=
  startCommand s fun s' => .next (finish .illegalCmd none s')

end Sys2Proof.Machine
end

