-- ==== Sys2Proof/Machine/Rx.lean ====
section
/-! DEFINITION. The drive-side identifiers rx.0x00 to rx.0x1f (42_value_decoder.md rules R200 to R231): the Value
Decoder's verdict on the checksum-valid frame in `S.rxf` that carries the identifier, and the session's judgement of it
(43_command_session.md rules R270, R274; log 7). -/

namespace Sys2Proof.Machine

/-- A non-matching frame (R270): SAW_NONMATCH, then retry or exhaust. -/
def nonMatch (s : State) : State := retryOrExhaust (noteNonmatch s)

/-- The session's judgement of a checksum-valid frame whose identifier is `fid` and on which the decoder says `v`
(R270, R358). RECV reports every verdict. READ, GREAD and AWAIT first compare the identifier with `S.expf`; a frame of an
unallowed or unknown identifier is a non-matching frame for them whatever `S.expf` is (R200 to R215, R228, R229, R231;
log 8). -/
def rxJudge (fid : Ident) (v : Verdict) (s : State) : State :=
  if s.op = .recv then
    match v with
    | .value x => finish .ok (some x) s
    | .lengthMismatch => finish .length none s
    | .unallowed => finish .unallowed none s
    | .unknown => finish .unrecognized none s
  else
    match v with
    | .unallowed => nonMatch s
    | .unknown => nonMatch s
    | .lengthMismatch => if fid ≠ s.expf then nonMatch s else finish .length none s
    | .value x => if fid ≠ s.expf then nonMatch s else finish .ok (some x) s

/-- rx.0x00: unallowed (R200). -/
def execRx00 (_lc : LenCode) (s : State) : Host.Outcome State Fault Refusal :=
  .next (rxJudge 0x00#5 .unallowed s)

/-- rx.0x01: unallowed (R201). -/
def execRx01 (_lc : LenCode) (s : State) : Host.Outcome State Fault Refusal :=
  .next (rxJudge 0x01#5 .unallowed s)

/-- rx.0x02: unallowed (R202). -/
def execRx02 (_lc : LenCode) (s : State) : Host.Outcome State Fault Refusal :=
  .next (rxJudge 0x02#5 .unallowed s)

/-- rx.0x03: unallowed (R203). -/
def execRx03 (_lc : LenCode) (s : State) : Host.Outcome State Fault Refusal :=
  .next (rxJudge 0x03#5 .unallowed s)

/-- rx.0x04: unallowed (R204). -/
def execRx04 (_lc : LenCode) (s : State) : Host.Outcome State Fault Refusal :=
  .next (rxJudge 0x04#5 .unallowed s)

/-- rx.0x05: unallowed (R205). -/
def execRx05 (_lc : LenCode) (s : State) : Host.Outcome State Fault Refusal :=
  .next (rxJudge 0x05#5 .unallowed s)

/-- rx.0x06: unallowed (R206). -/
def execRx06 (_lc : LenCode) (s : State) : Host.Outcome State Fault Refusal :=
  .next (rxJudge 0x06#5 .unallowed s)

/-- rx.0x07: unallowed (R207). -/
def execRx07 (_lc : LenCode) (s : State) : Host.Outcome State Fault Refusal :=
  .next (rxJudge 0x07#5 .unallowed s)

/-- rx.0x08: unallowed (R208). -/
def execRx08 (_lc : LenCode) (s : State) : Host.Outcome State Fault Refusal :=
  .next (rxJudge 0x08#5 .unallowed s)

/-- rx.0x09: unallowed (R209). -/
def execRx09 (_lc : LenCode) (s : State) : Host.Outcome State Fault Refusal :=
  .next (rxJudge 0x09#5 .unallowed s)

/-- rx.0x0a: unallowed (R210). -/
def execRx0a (_lc : LenCode) (s : State) : Host.Outcome State Fault Refusal :=
  .next (rxJudge 0x0a#5 .unallowed s)

/-- rx.0x0b: unknown (R211). -/
def execRx0b (_lc : LenCode) (s : State) : Host.Outcome State Fault Refusal :=
  .next (rxJudge 0x0b#5 .unknown s)

/-- rx.0x0c: unknown (R212). -/
def execRx0c (_lc : LenCode) (s : State) : Host.Outcome State Fault Refusal :=
  .next (rxJudge 0x0c#5 .unknown s)

/-- rx.0x0d: unknown (R213). -/
def execRx0d (_lc : LenCode) (s : State) : Host.Outcome State Fault Refusal :=
  .next (rxJudge 0x0d#5 .unknown s)

/-- rx.0x0e: unknown (R214). -/
def execRx0e (_lc : LenCode) (s : State) : Host.Outcome State Fault Refusal :=
  .next (rxJudge 0x0e#5 .unknown s)

/-- rx.0x0f: unknown (R215). -/
def execRx0f (_lc : LenCode) (s : State) : Host.Outcome State Fault Refusal :=
  .next (rxJudge 0x0f#5 .unknown s)

/-- rx.0x10: Scalar7 (R216). -/
def execRx10 (lc : LenCode) (s : State) : Host.Outcome State Fault Refusal :=
  .next (rxJudge 0x10#5 (scalarVerdict lc s.rxf) s)

/-- rx.0x11: Scalar7 (R217). -/
def execRx11 (lc : LenCode) (s : State) : Host.Outcome State Fault Refusal :=
  .next (rxJudge 0x11#5 (scalarVerdict lc s.rxf) s)

/-- rx.0x12: Scalar7 (R218). -/
def execRx12 (lc : LenCode) (s : State) : Host.Outcome State Fault Refusal :=
  .next (rxJudge 0x12#5 (scalarVerdict lc s.rxf) s)

/-- rx.0x13: Scalar7 (R219). -/
def execRx13 (lc : LenCode) (s : State) : Host.Outcome State Fault Refusal :=
  .next (rxJudge 0x13#5 (scalarVerdict lc s.rxf) s)

/-- rx.0x14: Scalar7 (R220). -/
def execRx14 (lc : LenCode) (s : State) : Host.Outcome State Fault Refusal :=
  .next (rxJudge 0x14#5 (scalarVerdict lc s.rxf) s)

/-- rx.0x15: Scalar7 (R221). -/
def execRx15 (lc : LenCode) (s : State) : Host.Outcome State Fault Refusal :=
  .next (rxJudge 0x15#5 (scalarVerdict lc s.rxf) s)

/-- rx.0x16: Scalar7 (R222). -/
def execRx16 (lc : LenCode) (s : State) : Host.Outcome State Fault Refusal :=
  .next (rxJudge 0x16#5 (scalarVerdict lc s.rxf) s)

/-- rx.0x17: Scalar7 (R223). -/
def execRx17 (lc : LenCode) (s : State) : Host.Outcome State Fault Refusal :=
  .next (rxJudge 0x17#5 (scalarVerdict lc s.rxf) s)

/-- rx.0x18: GearPair (R224). -/
def execRx18 (lc : LenCode) (s : State) : Host.Outcome State Fault Refusal :=
  .next (rxJudge 0x18#5 (gearVerdict lc s.rxf) s)

/-- rx.0x19: StatusRecord (R225). -/
def execRx19 (lc : LenCode) (s : State) : Host.Outcome State Fault Refusal :=
  .next (rxJudge 0x19#5 (statusVerdict lc s.rxf) s)

/-- rx.0x1a: ConfigRecord (R226). -/
def execRx1a (lc : LenCode) (s : State) : Host.Outcome State Fault Refusal :=
  .next (rxJudge 0x1a#5 (configVerdict lc s.rxf) s)

/-- rx.0x1b: SignedInteger, any length code (R227). -/
def execRx1b (_lc : LenCode) (s : State) : Host.Outcome State Fault Refusal :=
  .next (rxJudge 0x1b#5 (signedVerdict s.rxf) s)

/-- rx.0x1c: unknown (R228). -/
def execRx1c (_lc : LenCode) (s : State) : Host.Outcome State Fault Refusal :=
  .next (rxJudge 0x1c#5 .unknown s)

/-- rx.0x1d: unknown (R229). -/
def execRx1d (_lc : LenCode) (s : State) : Host.Outcome State Fault Refusal :=
  .next (rxJudge 0x1d#5 .unknown s)

/-- rx.0x1e: SignedInteger, any length code (R230). -/
def execRx1e (_lc : LenCode) (s : State) : Host.Outcome State Fault Refusal :=
  .next (rxJudge 0x1e#5 (signedVerdict s.rxf) s)

/-- rx.0x1f: unallowed (R231). -/
def execRx1f (_lc : LenCode) (s : State) : Host.Outcome State Fault Refusal :=
  .next (rxJudge 0x1f#5 .unallowed s)

/-- The meaning of the drive-side identifier `f` (R200 to R231). -/
def rxMeaning (f : Ident) (lc : LenCode) (s : State) : Host.Outcome State Fault Refusal :=
  match f.toNat with
  | 0 => execRx00 lc s
  | 1 => execRx01 lc s
  | 2 => execRx02 lc s
  | 3 => execRx03 lc s
  | 4 => execRx04 lc s
  | 5 => execRx05 lc s
  | 6 => execRx06 lc s
  | 7 => execRx07 lc s
  | 8 => execRx08 lc s
  | 9 => execRx09 lc s
  | 10 => execRx0a lc s
  | 11 => execRx0b lc s
  | 12 => execRx0c lc s
  | 13 => execRx0d lc s
  | 14 => execRx0e lc s
  | 15 => execRx0f lc s
  | 16 => execRx10 lc s
  | 17 => execRx11 lc s
  | 18 => execRx12 lc s
  | 19 => execRx13 lc s
  | 20 => execRx14 lc s
  | 21 => execRx15 lc s
  | 22 => execRx16 lc s
  | 23 => execRx17 lc s
  | 24 => execRx18 lc s
  | 25 => execRx19 lc s
  | 26 => execRx1a lc s
  | 27 => execRx1b lc s
  | 28 => execRx1c lc s
  | 29 => execRx1d lc s
  | 30 => execRx1e lc s
  | _ => execRx1f lc s

end Sys2Proof.Machine
end

