-- ==== Sys2Proof/Machine/Dispatch.lean ====
section
/-! DEFINITION. `exec`: one arm for each instruction, each one call of its meaning. -/

namespace Sys2Proof.Machine

def exec (i : Instr) (s : State) : Host.Outcome State Fault Refusal :=
  match i with
  | .encode func lc => Sys2Proof.Machine.execEncode func lc s
  | .write func lc => Sys2Proof.Machine.execWrite func lc s
  | .read h lc => Sys2Proof.Machine.execRead h lc s
  | .gread g lc => Sys2Proof.Machine.execGread g lc s
  | .await d lc => Sys2Proof.Machine.execAwait d lc s
  | .recv func lc => Sys2Proof.Machine.execRecv func lc s
  | .flush func lc => Sys2Proof.Machine.execFlush func lc s
  | .illegal w => Sys2Proof.Machine.execIllegal w s
  | .tx00 lc => Sys2Proof.Machine.execTx00 lc s
  | .tx01 lc => Sys2Proof.Machine.execTx01 lc s
  | .tx02 lc => Sys2Proof.Machine.execTx02 lc s
  | .tx03 lc => Sys2Proof.Machine.execTx03 lc s
  | .tx04 lc => Sys2Proof.Machine.execTx04 lc s
  | .tx05 lc => Sys2Proof.Machine.execTx05 lc s
  | .tx06 lc => Sys2Proof.Machine.execTx06 lc s
  | .tx07 lc => Sys2Proof.Machine.execTx07 lc s
  | .tx08 lc => Sys2Proof.Machine.execTx08 lc s
  | .tx09 lc => Sys2Proof.Machine.execTx09 lc s
  | .tx0a lc => Sys2Proof.Machine.execTx0a lc s
  | .tx0b lc => Sys2Proof.Machine.execTx0b lc s
  | .tx0c lc => Sys2Proof.Machine.execTx0c lc s
  | .tx0d lc => Sys2Proof.Machine.execTx0d lc s
  | .tx0e lc => Sys2Proof.Machine.execTx0e lc s
  | .tx0f lc => Sys2Proof.Machine.execTx0f lc s
  | .tx10 lc => Sys2Proof.Machine.execTx10 lc s
  | .tx11 lc => Sys2Proof.Machine.execTx11 lc s
  | .tx12 lc => Sys2Proof.Machine.execTx12 lc s
  | .tx13 lc => Sys2Proof.Machine.execTx13 lc s
  | .tx14 lc => Sys2Proof.Machine.execTx14 lc s
  | .tx15 lc => Sys2Proof.Machine.execTx15 lc s
  | .tx16 lc => Sys2Proof.Machine.execTx16 lc s
  | .tx17 lc => Sys2Proof.Machine.execTx17 lc s
  | .tx18 lc => Sys2Proof.Machine.execTx18 lc s
  | .tx19 lc => Sys2Proof.Machine.execTx19 lc s
  | .tx1a lc => Sys2Proof.Machine.execTx1a lc s
  | .tx1b lc => Sys2Proof.Machine.execTx1b lc s
  | .tx1c lc => Sys2Proof.Machine.execTx1c lc s
  | .tx1d lc => Sys2Proof.Machine.execTx1d lc s
  | .tx1e lc => Sys2Proof.Machine.execTx1e lc s
  | .tx1f lc => Sys2Proof.Machine.execTx1f lc s
  | .rx00 lc => Sys2Proof.Machine.execRx00 lc s
  | .rx01 lc => Sys2Proof.Machine.execRx01 lc s
  | .rx02 lc => Sys2Proof.Machine.execRx02 lc s
  | .rx03 lc => Sys2Proof.Machine.execRx03 lc s
  | .rx04 lc => Sys2Proof.Machine.execRx04 lc s
  | .rx05 lc => Sys2Proof.Machine.execRx05 lc s
  | .rx06 lc => Sys2Proof.Machine.execRx06 lc s
  | .rx07 lc => Sys2Proof.Machine.execRx07 lc s
  | .rx08 lc => Sys2Proof.Machine.execRx08 lc s
  | .rx09 lc => Sys2Proof.Machine.execRx09 lc s
  | .rx0a lc => Sys2Proof.Machine.execRx0a lc s
  | .rx0b lc => Sys2Proof.Machine.execRx0b lc s
  | .rx0c lc => Sys2Proof.Machine.execRx0c lc s
  | .rx0d lc => Sys2Proof.Machine.execRx0d lc s
  | .rx0e lc => Sys2Proof.Machine.execRx0e lc s
  | .rx0f lc => Sys2Proof.Machine.execRx0f lc s
  | .rx10 lc => Sys2Proof.Machine.execRx10 lc s
  | .rx11 lc => Sys2Proof.Machine.execRx11 lc s
  | .rx12 lc => Sys2Proof.Machine.execRx12 lc s
  | .rx13 lc => Sys2Proof.Machine.execRx13 lc s
  | .rx14 lc => Sys2Proof.Machine.execRx14 lc s
  | .rx15 lc => Sys2Proof.Machine.execRx15 lc s
  | .rx16 lc => Sys2Proof.Machine.execRx16 lc s
  | .rx17 lc => Sys2Proof.Machine.execRx17 lc s
  | .rx18 lc => Sys2Proof.Machine.execRx18 lc s
  | .rx19 lc => Sys2Proof.Machine.execRx19 lc s
  | .rx1a lc => Sys2Proof.Machine.execRx1a lc s
  | .rx1b lc => Sys2Proof.Machine.execRx1b lc s
  | .rx1c lc => Sys2Proof.Machine.execRx1c lc s
  | .rx1d lc => Sys2Proof.Machine.execRx1d lc s
  | .rx1e lc => Sys2Proof.Machine.execRx1e lc s
  | .rx1f lc => Sys2Proof.Machine.execRx1f lc s

end Sys2Proof.Machine
end

