-- ==== Sys2Proof/Machine/HostPort.lean ====
section
/-! DEFINITION. The host register port (20_memory.md rules R60 to R64): reads, and writes by slot. A write to COMMAND runs
the instruction its word decodes to. -/

namespace Sys2Proof.Machine

/-- `MemRead(idx, 4)` (R60, R63): the value goes to the host; no register changes. -/
def hostRead (idx : Slot) (s : State) : State := { s with rdata := readSlot s idx }

/-- A write to CONFIG (R64, R420). -/
def writeConfig (v : Word) (s : State) : State :=
  if s.busy then dropWrite s else setConfig s v

/-- A write to PAYLOAD (R64, R420). -/
def writePayload (v : Word) (s : State) : State :=
  if s.busy then dropWrite s else setPayload s v

/-- A write to STATUS (R36, R64): bit 30 written 1 clears OVERRUN, every other bit is ignored; accepted while busy. -/
def writeStatus (v : Word) (s : State) : State :=
  { s with overrun := s.overrun && !v.getLsbD 30 }

/-- A write to COMMAND (R28): the instruction the word spells. -/
def writeCommand (v : Word) (s : State) : Host.Outcome State Fault Refusal := exec (decodeCmd v) s

/-- `MemWrite(idx, 4, v)` (R60, R62, R64): writes to read-only and unmapped slots are ignored. -/
def hostWrite (idx : Slot) (v : Word) (s : State) : Host.Outcome State Fault Refusal :=
  match idx.toNat with
  | 0 => .next (writeConfig v s)
  | 1 => .next (writePayload v s)
  | 2 => writeCommand v s
  | 3 => .next (writeStatus v s)
  | _ => .next s

end Sys2Proof.Machine
end

