-- ==== Sys2Proof/Machine/Transport.lean ====
section
/-! DEFINITION. Transport answers (43_command_session.md rules R264 to R271): what the session does with the answer to its
outstanding request. -/

namespace Sys2Proof.Machine

/-- `FlushAck` in FLUSHING (R264): FLUSH completes, a sending command issues its write. -/
def onFlushAck (s : State) : State :=
  if s.op = .flush then finish .ok none s else issueWrite s

/-- `Count(c)` in WRITING (R265): any count but the frame's length is a transport error, not retried. -/
def onCount (c : Nat) (s : State) : State :=
  if c ≠ s.txf.length then finish .transport none s
  else if s.op = .write then finish .ok none s
  else beginAttempt s

/-- The verdict on a frame an attempt completed (R270): the checksum first (R358), then the meaning of its drive-side
identifier. -/
def judgeFrame (f : List Byte) (s : State) : Host.Outcome State Fault Refusal :=
  if cksOk f then rxMeaning (identOf (f.getD 1 0)) (lenCodeOf (f.getD 1 0)) s
  else .next (failAttempt .checksum (noteCksum s))

/-- `end_attempt(o)` (R271): the bookkeeping of a finished attempt, then the verdict. -/
def endAttempt (o : Outcome) (s : State) : Host.Outcome State Fault Refusal :=
  match o with
  | .fail => .next (finish .transport none (countAttempt s))
  | .timeout => .next (failAttempt .timeout (noteTimeout (countAttempt s)))
  | .frame f => judgeFrame f (noteFrame f (countAttempt s))

/-- An answer to `TRead1()` in READING (R267). -/
def onRead (a : ReadAnswer) (s : State) : Host.Outcome State Fault Refusal :=
  match readerStep s.acc a with
  | (acc', none) => .next { s with acc := acc' }
  | (acc', some o) => endAttempt o { s with acc := acc' }

/-- A transport answer (R268). One that does not fit the outstanding request is given no step: it is dropped and the
block stays as it is (R75, R402; log 4). -/
def deliver (a : TAnswer) (s : State) : Host.Outcome State Fault Refusal :=
  match s.ses, a with
  | .flushing, .flushAck => .next (onFlushAck s)
  | .writing, .count c => .next (onCount c s)
  | .reading, .byte b => onRead (.byte b) s
  | .reading, .timeout => onRead .timeout s
  | .reading, .fail => onRead .fail s
  | _, _ => .next s

end Sys2Proof.Machine
end

