-- ==== Sys2Proof/Machine/Fetch.lean ====
section
/-! DEFINITION. Where the next instruction comes from. The block fetches none (R82): a command word arrives as a host
write to COMMAND, an inbound identifier arrives in byte 1 of a frame the Frame Reader completes (log 10). -/

namespace Sys2Proof.Machine

/-- The events to come, the next one first: what is left of `env`, and once that is used up `again` from its beginning
(log 1). -/
def State.pending (s : State) : List Event :=
  match s.env with
  | [] => s.again
  | e :: rest => e :: rest

/-- The next event of the environment becomes `e`. -/
def arriveFirst (e : Event) (s : State) : State := { s with env := e :: s.env }

/-- The host's next access writes the word `w` to COMMAND. -/
def placeCommand (w : Word) (s : State) : State := arriveFirst (.hostWrite 2 w) s

/-- The bytes before the checksum of an inbound frame with byte 1 `b`, from drive 0 with payload values 0. -/
def inboundBody (b : Byte) : List Byte :=
  0#8 :: b :: List.replicate ((lenCodeOf b).toNat + 1) 0x80#8

/-- A RECV is in progress whose attempt has read all of a frame with byte 1 `b` but its checksum byte, which the
transport delivers next. -/
def placeInbound (b : Byte) (s : State) : State :=
  let body := inboundBody b
  arriveFirst (.answer (.byte (contByte (cks7 body))))
    { beginAttempt (latchOp .recv (clearForStart s)) with acc := body }

/-- One event of the environment (R19, R361). -/
def handle (e : Event) (s : State) : Host.Outcome State Fault Refusal :=
  match e with
  | .reset => .next (resetBlock s)
  | .hostRead idx => .next (hostRead idx s)
  | .hostWrite idx v => hostWrite idx v s
  | .answer a => deliver a s

end Sys2Proof.Machine
end

