-- ==== Sys2Proof/Machine/Step.lean ====
section
/-! DEFINITION. The step (R19): one event of the environment, with everything the block does until it waits again. -/

namespace Sys2Proof.Machine

/-- One step: the next event is taken from the environment and handled. With no event the block waits, and
nothing changes (R383: IDLE "is an ordinary state in which it waits for a host access"; log 3). -/
def step (s : State) : Host.Outcome State Fault Refusal :=
  match s.pending with
  | [] => .next s
  | e :: rest => handle e { s with env := rest }

/-- The instruction with these bits arrives next: a command word as the host's next write to COMMAND; a byte with bit 7
set, when the table gives the row at most 8 bits, as byte 1 of the inbound frame that the next answer completes (log 9,
log 10). -/
def State.withFetchWord (s : State) (nbits w : Nat) : State :=
  if nbits ≤ 8 && w.testBit 7 then placeInbound (BitVec.ofNat 8 w) s
  else placeCommand (BitVec.ofNat 32 w) s

end Sys2Proof.Machine
end

