-- ==== Sys2Proof/Safety.lean ====
section
/-! DEFINITION. The terms claims use: what a good state of the block is, and the spec's own functions for the decoder
(R191) and the verdict on an attempt (R270 to R273), written from their pseudocode apart from the machine, so that the
machine can be compared with them. -/

namespace Sys2Proof.Machine

/-- The next state of an outcome, if it is one. -/
def nextState (o : Host.Outcome State Fault Refusal) : Option State :=
  match o with
  | .next s => some s
  | .fault _ => none
  | .refused _ => none

/-! ## The invariant -/

/-- The shape of every frame the Frame Reader completes or the codec builds (R132, R169): its length is the one byte 1
announces, byte 0 is a start byte and every other byte a continuation byte. -/
abbrev FrameShape (f : List Byte) : Prop :=
  f.length = 4 + (lenCodeOf (f.getD 1 0)).toNat ∧ isContinuation (f.getD 0 0) = false ∧
    ∀ b ∈ f.drop 1, isContinuation b = true

/-- The accumulator (R43, R162): empty, or the beginning of a frame that is not complete. -/
abbrev AccShape (acc : List Byte) : Prop :=
  acc = [] ∨
    (isContinuation (acc.getD 0 0) = false ∧ (∀ b ∈ acc.drop 1, isContinuation b = true) ∧
      (2 ≤ acc.length → acc.length < 4 + (lenCodeOf (acc.getD 1 0)).toNat))

/-- A frame buffer (R46): nothing yet, or a frame. -/
abbrev BufferShape (f : List Byte) : Prop := f = [] ∨ FrameShape f

/-- The constraint on the parameter `HOST_MAP` (R300): every entry that is not none is a typed identifier. -/
abbrev HostMapTyped (m : Vector (Option Ident) 32) : Prop :=
  ∀ h : Ident, (m[h.toFin]).all verifyFuncId = true

/-- The commands that match against an expected identifier (R269). -/
abbrev Matching (o : Op) : Prop := o = .read ∨ o = .gread ∨ o = .await

/-- The commands that send a frame (R264). -/
abbrev Sending (o : Op) : Prop := o = .write ∨ o = .read ∨ o = .gread

/-- BUSY, DONE and `S.ses` (R30, R277 (a) and (d)), and which command can be in which session state (R276). -/
abbrev SessionInv (s : State) : Prop :=
  (s.busy = true ↔ s.ses ≠ .idle) ∧ (s.done = true → s.busy = false) ∧
    (s.ses = .flushing → Sending s.op ∧ s.txf ≠ [] ∨ s.op = .flush) ∧
    (s.ses = .writing → Sending s.op ∧ s.txf ≠ []) ∧
    (s.ses = .reading → Matching s.op ∨ s.op = .recv) ∧
    (s.ses ≠ .reading → s.acc = [])

/-- The attempt counter against the bound (R33, R272, R277 (c)). While the command is in progress a further attempt is
always within the bound, and the flags (R35) tell whether an attempt has ended. -/
abbrev AttemptInv (s : State) : Prop :=
  s.maxAttempts ≠ 0 ∧ (s.ses = .flushing ∨ s.ses = .writing → s.attempts = 0) ∧
    (s.ses = .reading → Matching s.op → s.attempts < s.maxAttempts) ∧
    (s.ses = .reading → s.op = .recv → s.attempts = 0) ∧
    (s.ses = .reading → s.attempts ≠ 0 → s.sawTimeout = true ∨ s.sawCksum = true ∨ s.sawNonmatch = true) ∧
    (s.busy = true → s.attempts = 0 →
      s.sawTimeout = false ∧ s.sawCksum = false ∧ s.sawNonmatch = false ∧ s.rxAny = false)

/-- The result and the error code (R37, R277 (e), R421, R273, R353). -/
abbrev ResultInv (s : State) : Prop :=
  (s.resTag ≠ .none → s.err = .ok ∧ s.done = true) ∧
    (s.resTag = .none → s.result0 = 0 ∧ s.result1 = 0) ∧
    (s.busy = true → s.err = .ok) ∧
    (s.err = .timeout → s.sawTimeout = true ∧ s.sawCksum = false ∧ s.sawNonmatch = false) ∧
    (s.err = .checksum → s.sawCksum = true ∧ s.sawNonmatch = false) ∧
    (s.err = .unexpectedFunc → s.sawNonmatch = true)

/-- The byte buffers and what STATUS says of the last frame (R35, R39, R43, R46, R169). -/
abbrev BufferInv (s : State) : Prop :=
  AccShape s.acc ∧ BufferShape s.txf ∧ BufferShape s.rxf ∧
    (s.rxAny = true → s.rxf ≠ [] ∧ s.rxFunc = identOf (s.rxf.getD 1 0)) ∧
    (s.rxAny = false → s.rxFunc = 0 ∧ s.sawCksum = false ∧ s.sawNonmatch = false)

/-- The expected identifier of a command in progress is typed (R270, R300, R284). -/
abbrev ExpectInv (s : State) : Prop :=
  HostMapTyped s.hostMap ∧ (s.busy = true → Matching s.op → verifyFuncId s.expf = true)

/-- What holds of the block in every state it reaches. -/
abbrev Inv (s : State) : Prop :=
  SessionInv s ∧ AttemptInv s ∧ ResultInv s ∧ BufferInv s ∧ ExpectInv s

/-- The answers that fit the outstanding request (R70, R75). -/
def answerFits (ses : Session) (a : TAnswer) : Bool :=
  match ses, a with
  | .flushing, .flushAck => true
  | .writing, .count _ => true
  | .reading, .byte _ => true
  | .reading, .timeout => true
  | .reading, .fail => true
  | _, _ => false

/-! ## The environment as an oracle -/

/-- The state after `n` steps under the oracle `o`, whose event `o k` is the one that step `k` takes: every sequence of
host accesses, transport answers and resets (R47), the infinite ones that a finite script and its repetition cannot
spell among them. -/
def runUnder (o : Nat → Event) (n : Nat) (s : State) : Host.Outcome State Fault Refusal :=
  match n with
  | 0 => .next s
  | k + 1 =>
    match runUnder o k s with
    | .next t => step { t with env := [o k] }
    | .fault r => .fault r
    | .refused r => .refused r

/-- The environment's duty (R74): every request outstanding is answered, or abandoned by a reset, after finitely many
steps. An assumption of a claim, never part of the step (log 13). -/
def FairFor (o : Nat → Event) (s : State) : Prop :=
  ∀ (n : Nat) (t : State), runUnder o n s = .next t → t.request ≠ none →
    ∃ m, n ≤ m ∧ ∃ u : State, runUnder o m s = .next u ∧
      (o m = .reset ∨ ∃ a : TAnswer, o m = .answer a ∧ answerFits u.ses a = true)

/-! ## The spec's own functions -/

/-- The payload values of a frame read as one big-endian number in 7-bit groups (R68, R192). -/
def bigEndian (ps : List Byte) : Nat := ps.foldl (fun v b => v * 128 + b.toNat % 128) 0

/-- `decode(f)` as R191 writes it, on the identifier's number. -/
def specDecode (f : List Byte) : Verdict :=
  let b := (f.getD 1 0).toNat
  let fid := b % 32
  let lc := b / 32 % 4
  let ps := (f.drop 2).dropLast
  let field := ps.getD 0 0
  if fid ≤ 0x0a ∨ fid = 0x1f then .unallowed
  else if fid ≤ 0x0f ∨ fid = 0x1c ∨ fid = 0x1d then .unknown
  else if fid ≤ 0x17 then
    if lc ≠ 0 then .lengthMismatch else .value ⟨.scalar7, BitVec.ofNat 32 (field.toNat % 128), 0⟩
  else if fid = 0x18 then
    if lc ≠ 3 then .lengthMismatch
    else .value ⟨.gearPair, BitVec.ofNat 32 (bigEndian (ps.take 2)), BitVec.ofNat 32 (bigEndian (ps.drop 2))⟩
  else if fid = 0x19 then
    if lc ≠ 0 then .lengthMismatch
    else .value ⟨.statusRecord, statusRecord field, BitVec.ofNat 32 (field.toNat % 128)⟩
  else if fid = 0x1a then
    if lc ≠ 0 then .lengthMismatch
    else .value ⟨.configRecord, configRecord field, BitVec.ofNat 32 (field.toNat % 128)⟩
  else .value ⟨.signed, BitVec.ofInt 32 (sdec ps), BitVec.ofNat 32 ps.length⟩

/-- The verdict on a finished attempt (R270): the command is done with an error code and perhaps a value, or the
attempt is retried. -/
inductive Judgement where
  | done (e : ErrCode) (v : Option Value)
  | retry
deriving DecidableEq, Repr

/-- The STATUS flag a verdict sets (R270). -/
inductive SawFlag where
  | none
  | timeout
  | cksum
  | nonmatch
deriving DecidableEq, Repr

/-- `classify(o, op, D)` (R270). Where R270 has no case (a matching frame on which the decoder gives no value, which the
typed `D` excludes) the result is a retry (log 8). -/
def specClassify (o : Outcome) (op : Op) (d : Ident) : Judgement × SawFlag :=
  match o with
  | .fail => (.done .transport none, .none)
  | .timeout => if op = .recv then (.done .timeout none, .timeout) else (.retry, .timeout)
  | .frame f =>
    if cksOk f = false then
      if op = .recv then (.done .checksum none, .cksum) else (.retry, .cksum)
    else if op = .recv then
      match specDecode f with
      | .value v => (.done .ok (some v), .none)
      | .lengthMismatch => (.done .length none, .none)
      | .unallowed => (.done .unallowed none, .none)
      | .unknown => (.done .unrecognized none, .none)
    else if (f.getD 1 0).toNat % 32 ≠ d.toNat then (.retry, .nonmatch)
    else
      match specDecode f with
      | .value v => (.done .ok (some v), .none)
      | .lengthMismatch => (.done .length none, .none)
      | .unallowed => (.retry, .nonmatch)
      | .unknown => (.retry, .nonmatch)

/-- `end_attempt(o)` (R271), with `finish` (R356), `begin_attempt` (R266), `retry_or_exhaust` (R272) and `exhaust_code`
(R273) written out. -/
def specEndAttempt (o : Outcome) (s : State) : State :=
  let s1 := { s with attempts := s.attempts + 1 }
  let s2 :=
    match o with
    | .frame f =>
      { s1 with
        rxf := f, rxAny := true, rxFunc := identOf (f.getD 1 0)
        obs := if s.debug = true then s.obs ++ [ObsRecord.mk .rx f] else s.obs }
    | .timeout => s1
    | .fail => s1
  let j := specClassify o s.op s.expf
  let s3 :=
    match j.2 with
    | .none => s2
    | .timeout => { s2 with sawTimeout := true }
    | .cksum => { s2 with sawCksum := true }
    | .nonmatch => { s2 with sawNonmatch := true }
  match j.1 with
  | .done e none => { s3 with err := e, acc := [], ses := .idle, busy := false, done := true }
  | .done e (some v) =>
    { s3 with
      err := e, resTag := v.tag, result0 := v.r0, result1 := v.r1
      acc := [], ses := .idle, busy := false, done := true }
  | .retry =>
    if s3.attempts < s3.maxAttempts then { s3 with busy := true, acc := [], ses := .reading }
    else
      { s3 with
        err := if s3.sawNonmatch = true then .unexpectedFunc else if s3.sawCksum = true then .checksum else .timeout
        acc := [], ses := .idle, busy := false, done := true }

end Sys2Proof.Machine
end

