-- ==== Sys2Proof/Certificates/Slice0/Obligations.lean ====
section
/-! DEFINITION. The statements for the provers, in the order of OBLIGATIONS.json. -/

open Sys2Proof Sys2Proof.Machine

/-- Decoding the encoding of a well-formed instruction gives it back. Derived: 30_encoding.md section 1 (byte 1), 30_encoding.md section 3 (the command word). -/
def Obligations.DecodeOfEncodeIsTheInstruction : Prop :=
  ∀ i : Instr, i.wellFormed = true → decode (encode i) = .ok i

/-- Whatever decodes is well formed and encodes back to the same bits. Derived: 30_encoding.md section 1 (byte 1), 30_encoding.md section 3 (the command word). -/
def Obligations.EncodeOfDecodeIsTheCode : Prop :=
  ∀ (c : Code) (i : Instr), decode c = .ok i → i.wellFormed = true ∧ encode i = c

/-- decode_cmd on all 2^32 words. Stated: R105. -/
def Obligations.CommandWordsDecodeByTheirFields : Prop :=
  ∀ w : Word,
    (w.extractLsb' 3 5 ≠ 0 ∨ w.extractLsb' 13 3 ≠ 0 ∨ w.extractLsb' 18 14 ≠ 0 ∨ w.extractLsb' 0 3 = 7#3 →
      decodeCmd w = .illegal w) ∧
    (w &&& 0xFFFCE0FF#32 = 0#32 → decodeCmd w = .encode (w.extractLsb' 8 5) (w.extractLsb' 16 2)) ∧
    (w &&& 0xFFFCE0FF#32 = 1#32 → decodeCmd w = .write (w.extractLsb' 8 5) (w.extractLsb' 16 2)) ∧
    (w &&& 0xFFFCE0FF#32 = 2#32 → decodeCmd w = .read (w.extractLsb' 8 5) (w.extractLsb' 16 2)) ∧
    (w &&& 0xFFFCE0FF#32 = 3#32 → decodeCmd w = .gread (w.extractLsb' 8 5) (w.extractLsb' 16 2)) ∧
    (w &&& 0xFFFCE0FF#32 = 4#32 → decodeCmd w = .await (w.extractLsb' 8 5) (w.extractLsb' 16 2)) ∧
    (w &&& 0xFFFCE0FF#32 = 5#32 → decodeCmd w = .recv (w.extractLsb' 8 5) (w.extractLsb' 16 2)) ∧
    (w &&& 0xFFFCE0FF#32 = 6#32 → decodeCmd w = .flush (w.extractLsb' 8 5) (w.extractLsb' 16 2)) ∧
    ((w &&& 0xFFFCE0FF#32).toNat < 7 ∨
      w.extractLsb' 3 5 ≠ 0 ∨ w.extractLsb' 13 3 ≠ 0 ∨ w.extractLsb' 18 14 ≠ 0 ∨ w.extractLsb' 0 3 = 7#3)

/-- Words written out from the encoding tables decode to their instructions. Derived: 30_encoding.md sections 1, 2 and 3. -/
def Obligations.WrittenOutWordsDecode : Prop :=
  decodeCmd 0x00031000#32 = .encode 0x10#5 3#2 ∧ decodeCmd 0x00001B03#32 = .gread 0x1b#5 0#2 ∧
    decodeCmd 0x00031F05#32 = .recv 0x1f#5 3#2 ∧ decodeCmd 0x00002000#32 = .illegal 0x00002000#32 ∧
    decodeTx 0xB0#8 = .ok (.tx10 1#2) ∧ decodeTx 0x8E#8 = .ok (.tx0e 0#2) ∧ decodeRx 0xF8#8 = .ok (.rx18 3#2) ∧
    decodeRx 0xBE#8 = .ok (.rx1e 1#2) ∧ decodeRx 0x39#8 = .error .startByte

/-- Byte 1 of a frame: how it is built and how it is read. Stated: R92. -/
def Obligations.ByteOneCarriesIdentifierAndLengthCode : Prop :=
  (∀ (f : Ident) (lc : LenCode),
      (byte1 f lc).toNat = 0x80 ||| (lc.toNat <<< 5) ||| (f.toNat &&& 0x1f) ∧ identOf (byte1 f lc) = f ∧
        lenCodeOf (byte1 f lc) = lc ∧ decodeTx (byte1 f lc) = .ok (txInstr f lc) ∧
        decodeRx (byte1 f lc) = .ok (rxInstr f lc)) ∧
    ∀ b : Byte, (identOf b).toNat = b.toNat &&& 0x1f ∧ (lenCodeOf b).toNat = (b.toNat >>> 5) &&& 0x03

/-- encode_frame byte by byte. Stated: R131. -/
def Obligations.EncodedFrameBytes : Prop :=
  (∀ (drive : DriveAddr) (func : Ident) (lc : LenCode) (vals : List Val7), vals.length = lc.toNat + 1 →
      let body := BitVec.setWidth 8 drive :: (0x80#8 ||| (BitVec.setWidth 8 lc <<< 5) ||| BitVec.setWidth 8 func) ::
        vals.map (fun v => 0x80#8 ||| BitVec.setWidth 8 v)
      encodeFrame drive func lc vals =
        body ++ [0x80#8 ||| BitVec.ofNat 8 ((body.map BitVec.toNat).sum % 128)]) ∧
    encodeFrame 1#5 0x18#5 0#2 [0#7] = [0x01#8, 0x98#8, 0x80#8, 0x99#8]

/-- Every encoded frame has the wire shape. Derived: 40_frame_codec.md section 2 (the shape it marks as derived from encode_frame). -/
def Obligations.EncodedFramesHaveTheFrameShape : Prop :=
  ∀ (drive : DriveAddr) (func : Ident) (lc : LenCode) (vals : List Val7), vals.length = lc.toNat + 1 →
    FrameShape (encodeFrame drive func lc vals) ∧ (encodeFrame drive func lc vals).length = 4 + lc.toNat ∧
      ((encodeFrame drive func lc vals).getD 0 0).extractLsb' 5 3 = 0#3 ∧
      lenCodeOf ((encodeFrame drive func lc vals).getD 1 0) = lc

/-- The checksum is the sum modulo 128, and acceptance compares it with the last byte. Stated: R133. -/
def Obligations.ChecksumAcceptsExactlyTheSumModulo128 : Prop :=
  (∀ bs : List Byte, (cks7 bs).toNat = (bs.map BitVec.toNat).sum % 128) ∧ cks7 [] = 0 ∧
    cks7 [0x01#8, 0x90#8, 0xA8#8] = 0x39#7 ∧ contByte (cks7 [0x01#8, 0x90#8, 0xA8#8]) = 0xB9#8 ∧
    (∀ f : List Byte, 4 ≤ f.length → f.length ≤ 7 →
      (cksOk f = true ↔ cks7 f.dropLast = (f.getLastD 0).extractLsb' 0 7)) ∧
    cksOk [0x01#8, 0x90#8, 0xA8#8, 0xB9#8] = true ∧ cksOk [0x01#8, 0x90#8, 0xA8#8, 0xB8#8] = false

/-- Every encoded frame satisfies the checksum relation. Derived: 40_frame_codec.md section 3 (invariant (a) of the source). -/
def Obligations.EncodedFramesPassTheChecksum : Prop :=
  ∀ (drive : DriveAddr) (func : Ident) (lc : LenCode) (vals : List Val7),
    cksOk (encodeFrame drive func lc vals) = true

/-- The checksum sees neither bit 7 nor the order of the bytes. Derived: 40_frame_codec.md section 3 (its derived laws of the checksum), 70_reset_and_hazards.md section 3 (checksum weakness). -/
def Obligations.ChecksumIgnoresHighBitsAndOrder : Prop :=
  (∀ bs : List Byte, cks7 bs = cks7 (bs.map (fun b => b &&& 0x7f#8))) ∧
    ∀ bs cs : List Byte, bs.Perm cs → cks7 bs = cks7 cs

/-- reader_step by its cases. Stated: R163. -/
def Obligations.ReaderStepCases : Prop :=
  ∀ (acc : List Byte) (b : Byte),
    readerStep acc .timeout = ([], some .timeout) ∧ readerStep acc .fail = ([], some .fail) ∧
    (b.getLsbD 7 = false → readerStep acc (.byte b) = ([b], none)) ∧
    (b.getLsbD 7 = true → acc = [] → readerStep acc (.byte b) = ([], none)) ∧
    (b.getLsbD 7 = true → acc ≠ [] →
      let acc1 := acc ++ [b]
      ((2 ≤ acc1.length ∧ acc1.length = 4 + ((acc1.getD 1 0).extractLsb' 5 2).toNat) →
        readerStep acc (.byte b) = ([], some (.frame acc1))) ∧
      (¬ (2 ≤ acc1.length ∧ acc1.length = 4 + ((acc1.getD 1 0).extractLsb' 5 2).toNat) →
        readerStep acc (.byte b) = (acc1, none))) ∧
    readBytes [] [0x01#8, 0x90#8, 0xA8#8, 0xB9#8] = ([], some (.frame [0x01#8, 0x90#8, 0xA8#8, 0xB9#8]), []) ∧
    readBytes [] [0x01#8, 0x90#8, 0xA8#8] = ([0x01#8, 0x90#8, 0xA8#8], none, [])

/-- The reader completes only frames of the wire shape, and keeps its accumulator a partial frame. Derived: 41_frame_reader.md section 2 (the shape of every completed frame), 10_state.md section 3 (the accumulator). -/
def Obligations.CompletedFramesHaveTheFrameShape : Prop :=
  ∀ (acc : List Byte) (b : Byte), AccShape acc →
    (∀ (acc' f : List Byte), readerStep acc (.byte b) = (acc', some (.frame f)) →
      acc' = [] ∧ FrameShape f ∧ 4 ≤ f.length ∧ f.length ≤ 7) ∧
    (∀ acc' : List Byte, readerStep acc (.byte b) = (acc', none) → AccShape acc' ∧ acc'.length ≤ 6) ∧
    ∀ acc' : List Byte, readerStep acc (.byte b) ≠ (acc', some .timeout) ∧
      readerStep acc (.byte b) ≠ (acc', some .fail)

/-- From any accumulator an undisturbed frame is completed exactly. Stated: R170. -/
def Obligations.ReaderResynchronisesOnAnyStartByte : Prop :=
  ∀ acc f rest : List Byte, FrameShape f →
    readBytes acc (f ++ rest) = ([], some (.frame f), rest) ∧
      ∀ k, k < f.length → (readBytes acc (f.take k)).2 = (none, [])

/-- Encode, read and validate round-trip. Derived: 40_frame_codec.md section 5 (round trip). -/
def Obligations.EncodedFrameIsReadBack : Prop :=
  ∀ (drive : DriveAddr) (func : Ident) (lc : LenCode) (vals : List Val7), vals.length = lc.toNat + 1 →
    readBytes [] (encodeFrame drive func lc vals) = ([], some (.frame (encodeFrame drive func lc vals)), []) ∧
      cksOk (encodeFrame drive func lc vals) = true

/-- Bytes that complete no frame keep one attempt going for ever, in an infinite run of a fair environment. Derived: 41_frame_reader.md section 2 (no frame-level timeout), 70_reset_and_hazards.md section 3 (reader livelock), 20_memory.md section 3 (environment duty). -/
def Obligations.StartBytesAloneNeverEndAnAttempt : Prop :=
  (∀ s : State, s.ses = .reading →
    (∀ bs : Nat → Byte, (∀ n, (readBytes s.acc ((List.range n).map bs)).2.1 = none) →
      FairFor (fun k => .answer (.byte (bs k))) s ∧
      ∀ n, ∃ t : State, runUnder (fun k => .answer (.byte (bs k))) n s = .next t ∧ t.ses = .reading ∧ t.request = some .read1 ∧
        t.busy = s.busy ∧ t.done = s.done ∧ t.attempts = s.attempts ∧ t.obs = s.obs ∧
        t.acc = (readBytes s.acc ((List.range n).map bs)).1) ∧
    (∀ bs : Nat → Byte,
      (∀ n, isContinuation (bs n) = false) ∨ (s.acc = [] ∧ ∀ n, isContinuation (bs n) = true) →
      ∀ n, (readBytes s.acc ((List.range n).map bs)).2.1 = none) ∧
    (∀ first loop : List Byte, s.env = first.map (fun b => .answer (.byte b)) →
      s.again = loop.map (fun b => .answer (.byte b)) →
      (∀ b ∈ first ++ loop, isContinuation b = false) ∨ (s.acc = [] ∧ ∀ b ∈ first ++ loop, isContinuation b = true) →
      ∀ n, ∃ t : State, Sys2Proof.core.run n s = .next t ∧ t.ses = .reading ∧ t.request = some .read1 ∧
        t.busy = s.busy ∧ t.done = s.done ∧ t.attempts = s.attempts ∧ t.obs = s.obs ∧
        (loop ≠ [] → t.pending ≠ [])) ∧
    (∀ bs : List Byte, (∀ b ∈ bs, isContinuation b = false) → s.env = bs.map (fun b => .answer (.byte b)) →
      ∃ t : State, Sys2Proof.core.run bs.length s = .next t ∧ t.ses = .reading ∧ t.request = some .read1 ∧
        t.busy = s.busy ∧ t.done = s.done ∧ t.attempts = s.attempts ∧ t.obs = s.obs ∧
        t.acc = (bs.getLast?.map (fun b => [b])).getD s.acc)) ∧
    ∀ n, ∃ t : State,
      Sys2Proof.core.run (n + 1) { State.reset with env := [.hostWrite 2 5#32], again := [.answer (.byte 0x00#8)] } =
        .next t ∧
      t.busy = true ∧ t.done = false ∧ t.attempts = 0 ∧ t.request = some .read1 ∧ t.pending = [.answer (.byte 0x00#8)]

/-- A RECV fed a whole frame completes with the decoder's verdict on it. Derived: 43_command_session.md section 2 (RECV), 41_frame_reader.md section 2, 42_value_decoder.md section 1. -/
def Obligations.RecvReportsTheFrameItReads : Prop :=
  ∀ (s : State) (f : List Byte) (rest : List Event), s.ses = .reading → s.op = .recv → s.resTag = .none →
    s.result0 = 0 → s.result1 = 0 → FrameShape f → s.env = f.map (fun b => .answer (.byte b)) ++ rest →
    ∃ t : State, Sys2Proof.core.run f.length s = .next t ∧ t.ses = .idle ∧ t.busy = false ∧ t.done = true ∧
      t.attempts = s.attempts + 1 ∧ t.rxf = f ∧ t.rxAny = true ∧ t.rxFunc = identOf (f.getD 1 0) ∧ t.acc = [] ∧
      t.env = rest ∧ t.sawTimeout = s.sawTimeout ∧ t.sawNonmatch = s.sawNonmatch ∧
      t.sawCksum = (s.sawCksum || !cksOk f) ∧
      (t.err, t.resTag, t.result0, t.result1) =
        (if cksOk f = false then (ErrCode.checksum, ResTag.none, 0#32, 0#32)
        else
          match specDecode f with
          | .value v => (.ok, v.tag, v.r0, v.r1)
          | .lengthMismatch => (.length, .none, 0#32, 0#32)
          | .unallowed => (.unallowed, .none, 0#32, 0#32)
          | .unknown => (.unrecognized, .none, 0#32, 0#32))

/-- SignedInteger: the closed form that the spec itself marks as derived from the source's procedure, the range, and the bits of RESULT0. Derived: 42_value_decoder.md section 1 (sdec). -/
def Obligations.SignedIntegerIsTheSignExtendedPayload : Prop :=
  (∀ ps : List Byte, 1 ≤ ps.length → ps.length ≤ 4 →
      sdec ps = (BitVec.ofNat (7 * ps.length) (bigEndian ps)).toInt ∧
        -(2 : Int) ^ (7 * ps.length - 1) ≤ sdec ps ∧ sdec ps ≤ (2 : Int) ^ (7 * ps.length - 1) - 1 ∧
        ∀ j, 7 * ps.length ≤ j → j < 32 →
          (BitVec.ofInt 32 (sdec ps)).getLsbD j = (BitVec.ofInt 32 (sdec ps)).getLsbD (7 * ps.length - 1)) ∧
    (∀ b : Byte, sdec [b] = (BitVec.ofNat 8 ((b.toNat % 128) <<< 1 % 256)).toInt / 2 ∧
      sdec [b] = (b.extractLsb' 0 7).toInt) ∧
    (∀ (ps : List Byte) (b : Byte), ps ≠ [] → sdec (ps ++ [b]) = sdec ps * 128 + (b.toNat % 128 : Nat)) ∧
    sdec [0xFF#8] = -1 ∧ sdec [0x80#8] = 0 ∧ sdec [0xFE#8, 0x80#8, 0x81#8] = -32767

/-- GearPair: two 14-bit unsigned halves. Stated: R193. -/
def Obligations.GearPairHalvesAreFourteenBitNumbers : Prop :=
  (∀ a b c d : Byte,
      (gear [a, b, c, d]).1.toNat = (a.toNat &&& 0x7f) <<< 7 ||| (b.toNat &&& 0x7f) ∧
      (gear [a, b, c, d]).2.toNat = (c.toNat &&& 0x7f) <<< 7 ||| (d.toNat &&& 0x7f) ∧
      (gear [a, b, c, d]).1.toNat ≤ 16383 ∧ (gear [a, b, c, d]).2.toNat ≤ 16383) ∧
    gear [0x81#8, 0x82#8, 0x83#8, 0x84#8] = (130#32, 388#32)

/-- The bits of a StatusRecord and of a ConfigRecord. Stated: R195, R196. -/
def Obligations.RecordBitsOfStatusAndConfig : Prop :=
  ∀ b : Byte,
    (statusRecord b).toNat = ((b.toNat &&& 0x7f) ^^^ 0x01) ||| ((if 4 < b.toNat / 4 % 8 then 1 else 0) <<< 7) ∧
    (statusRecord b).getLsbD 0 = !b.getLsbD 0 ∧ (statusRecord b).getLsbD 1 = b.getLsbD 1 ∧
    (statusRecord b).extractLsb' 2 3 = b.extractLsb' 2 3 ∧ (statusRecord b).getLsbD 5 = b.getLsbD 5 ∧
    (statusRecord b).getLsbD 6 = b.getLsbD 6 ∧ (statusRecord b).extractLsb' 8 24 = 0#24 ∧
    (statusRecord b).getLsbD 7 = decide (4 < (b.extractLsb' 2 3).toNat) ∧
    (configRecord b).extractLsb' 0 7 = b.extractLsb' 0 7 ∧
    (configRecord b).getLsbD 7 = (b.extractLsb' 3 2 == 3#2) ∧ (configRecord b).extractLsb' 8 24 = 0#24

/-- Every drive-side identifier that is not the expected one is a failed attempt. Derived: 43_command_session.md section 1 (classify, retry_or_exhaust, exhaust_code). -/
def Obligations.NonMatchingFrameIsRetriedOrExhausts : Prop :=
  ∀ (f : Ident) (lc : LenCode) (s : State), Matching s.op → s.expf ≠ f →
    exec (rxInstr f lc) s =
      .next
        (if s.attempts < s.maxAttempts then
          { s with sawNonmatch := true, busy := true, acc := [], ses := .reading }
        else { s with sawNonmatch := true, err := .unexpectedFunc, acc := [], ses := .idle, busy := false, done := true })

/-- Drive-side identifiers 0x00 to 0x0a and 0x1f: unallowed. Stated: R200, R201, R202, R203, R204, R205, R206, R207, R208, R209, R210, R231. -/
def Obligations.UnallowedIdentifiersGiveNoValue : Prop :=
  (∀ (f : Ident) (lc : LenCode) (b : Byte) (s : State), f.toNat ≤ 0x0a ∨ f.toNat = 0x1f →
      (b &&& 0x9F#8 = 0x80#8 ||| BitVec.setWidth 8 f → decodeRx b = .ok (rxInstr f (b.extractLsb' 5 2))) ∧
      (s.op = .recv →
        exec (rxInstr f lc) s = .next { s with err := .unallowed, acc := [], ses := .idle, busy := false, done := true }) ∧
      (Matching s.op → verifyFuncId s.expf = true →
        exec (rxInstr f lc) s =
          .next
            (if s.attempts < s.maxAttempts then
              { s with sawNonmatch := true, busy := true, acc := [], ses := .reading }
            else { s with sawNonmatch := true, err := .unexpectedFunc, acc := [], ses := .idle, busy := false, done := true })))

/-- Drive-side identifiers 0x0b to 0x0f, 0x1c and 0x1d: unknown. Stated: R211, R212, R213, R214, R215, R228, R229. -/
def Obligations.UnknownIdentifiersGiveNoValue : Prop :=
  (∀ (f : Ident) (lc : LenCode) (b : Byte) (s : State), (0x0b ≤ f.toNat ∧ f.toNat ≤ 0x0f) ∨ f.toNat = 0x1c ∨ f.toNat = 0x1d →
      (b &&& 0x9F#8 = 0x80#8 ||| BitVec.setWidth 8 f → decodeRx b = .ok (rxInstr f (b.extractLsb' 5 2))) ∧
      (s.op = .recv →
        exec (rxInstr f lc) s = .next { s with err := .unrecognized, acc := [], ses := .idle, busy := false, done := true }) ∧
      (Matching s.op → verifyFuncId s.expf = true →
        exec (rxInstr f lc) s =
          .next
            (if s.attempts < s.maxAttempts then
              { s with sawNonmatch := true, busy := true, acc := [], ses := .reading }
            else { s with sawNonmatch := true, err := .unexpectedFunc, acc := [], ses := .idle, busy := false, done := true })))

/-- Drive-side identifiers 0x10 to 0x17: Scalar7. Stated: R216, R217, R218, R219, R220, R221, R222, R223. -/
def Obligations.ScalarFramesDecodeToSevenBits : Prop :=
  ∀ (f : Ident) (lc : LenCode) (s : State), 0x10 ≤ f.toNat → f.toNat ≤ 0x17 → (s.op = .recv ∨ Matching s.op ∧ s.expf = f) →
    (∀ b : Byte, b &&& 0x9F#8 = 0x80#8 ||| BitVec.setWidth 8 f → decodeRx b = .ok (rxInstr f (b.extractLsb' 5 2))) ∧
    (∀ b0 b1 b2 b3 : Byte, lc = 0 → s.rxf = [b0, b1, b2, b3] →
      exec (rxInstr f lc) s =
        .next { s with
            err := .ok, resTag := .scalar7
            result0 := (b2.extractLsb' 0 7).setWidth 32
            result1 := 0
            acc := [], ses := .idle, busy := false, done := true }) ∧
    (lc ≠ 0 → exec (rxInstr f lc) s = .next { s with err := .length, acc := [], ses := .idle, busy := false, done := true })

/-- Drive-side identifier 0x18: GearPair. Stated: R224. -/
def Obligations.GearFramesDecodeToPairs : Prop :=
  ∀ (lc : LenCode) (s : State), (s.op = .recv ∨ Matching s.op ∧ s.expf = 0x18#5) →
    (∀ b : Byte, b &&& 0x9F#8 = 0x98#8 → decodeRx b = .ok (.rx18 (b.extractLsb' 5 2))) ∧
    (∀ b0 b1 b2 b3 b4 b5 b6 : Byte, lc = 3 → s.rxf = [b0, b1, b2, b3, b4, b5, b6] →
      exec (.rx18 lc) s =
        .next { s with
            err := .ok, resTag := .gearPair
            result0 := (b2.extractLsb' 0 7 ++ b3.extractLsb' 0 7).setWidth 32
            result1 := (b4.extractLsb' 0 7 ++ b5.extractLsb' 0 7).setWidth 32
            acc := [], ses := .idle, busy := false, done := true }) ∧
    (lc ≠ 3 → exec (.rx18 lc) s = .next { s with err := .length, acc := [], ses := .idle, busy := false, done := true })

/-- Drive-side identifiers 0x19 and 0x1a: StatusRecord and ConfigRecord. Stated: R225, R226. -/
def Obligations.RecordFramesDecodeToRecords : Prop :=
  (∀ (lc : LenCode) (s : State),
      (∀ b0 b1 b2 b3 : Byte, (s.op = .recv ∨ Matching s.op ∧ s.expf = 0x19#5) → lc = 0 → s.rxf = [b0, b1, b2, b3] →
        exec (.rx19 lc) s =
          .next { s with
              err := .ok, resTag := .statusRecord
              result0 := statusRecord b2
              result1 := (b2.extractLsb' 0 7).setWidth 32
              acc := [], ses := .idle, busy := false, done := true }) ∧
      ((s.op = .recv ∨ Matching s.op ∧ s.expf = 0x19#5) → lc ≠ 0 → exec (.rx19 lc) s = .next { s with err := .length, acc := [], ses := .idle, busy := false, done := true }) ∧
      (∀ b0 b1 b2 b3 : Byte, (s.op = .recv ∨ Matching s.op ∧ s.expf = 0x1a#5) → lc = 0 → s.rxf = [b0, b1, b2, b3] →
        exec (.rx1a lc) s =
          .next { s with
              err := .ok, resTag := .configRecord
              result0 := configRecord b2
              result1 := (b2.extractLsb' 0 7).setWidth 32
              acc := [], ses := .idle, busy := false, done := true }) ∧
      ((s.op = .recv ∨ Matching s.op ∧ s.expf = 0x1a#5) → lc ≠ 0 → exec (.rx1a lc) s = .next { s with err := .length, acc := [], ses := .idle, busy := false, done := true })) ∧
    (∀ b : Byte, (b &&& 0x9F#8 = 0x99#8 → decodeRx b = .ok (.rx19 (b.extractLsb' 5 2))) ∧
      (b &&& 0x9F#8 = 0x9A#8 → decodeRx b = .ok (.rx1a (b.extractLsb' 5 2)))) ∧
    statusRecord 0x80#8 = 0x01#32 ∧ statusRecord 0x81#8 = 0x00#32 ∧ statusRecord 0x94#8 = 0x95#32 ∧
    statusRecord 0x9C#8 = 0x9D#32 ∧ statusRecord 0xFF#8 = 0xFE#32 ∧ statusRecord 0xA2#8 = 0x23#32 ∧
    configRecord 0x9B#8 = 0x9B#32 ∧ configRecord 0xFF#8 = 0xFF#32 ∧ configRecord 0x80#8 = 0x00#32 ∧
    configRecord 0xA5#8 = 0x25#32

/-- Drive-side identifiers 0x1b and 0x1e: SignedInteger of any length code. Stated: R227, R230. -/
def Obligations.SignedFramesDecodeToIntegers : Prop :=
  (∀ (lc : LenCode) (s : State) (ps : List Byte), ps.length = lc.toNat + 1 →
      ((s.op = .recv ∨ Matching s.op ∧ s.expf = 0x1b#5) →
        (∀ b0 b1 c : Byte, s.rxf = b0 :: b1 :: ps ++ [c] →
        exec (.rx1b lc) s =
          .next { s with
              err := .ok, resTag := .signed
              result0 := BitVec.ofInt 32 (BitVec.ofNat (7 * ps.length) (bigEndian ps)).toInt
              result1 := BitVec.ofNat 32 ps.length
              acc := [], ses := .idle, busy := false, done := true })) ∧
      ((s.op = .recv ∨ Matching s.op ∧ s.expf = 0x1e#5) →
        (∀ b0 b1 c : Byte, s.rxf = b0 :: b1 :: ps ++ [c] →
        exec (.rx1e lc) s =
          .next { s with
              err := .ok, resTag := .signed
              result0 := BitVec.ofInt 32 (BitVec.ofNat (7 * ps.length) (bigEndian ps)).toInt
              result1 := BitVec.ofNat 32 ps.length
              acc := [], ses := .idle, busy := false, done := true }))) ∧
    ∀ b : Byte, (b &&& 0x9F#8 = 0x9B#8 → decodeRx b = .ok (.rx1b (b.extractLsb' 5 2))) ∧
      (b &&& 0x9F#8 = 0x9E#8 → decodeRx b = .ok (.rx1e (b.extractLsb' 5 2)))

/-- Every host-side identifier 0x00 to 0x1f under ENCODE and WRITE: build, and send, with no validation (under the latched command: log 6). Derived: 43_command_session.md section 4, 43_command_session.md section 1 (build, send, issue_write). -/
def Obligations.HostIdentifiersUnderEncodeAndWrite : Prop :=
  ∀ (h : Ident) (lc : LenCode) (s : State),
    (s.op = .encode →
      exec (txInstr h lc) s =
        .next { s with
          txf := encodeFrame s.driveAddr h lc ([s.p0, s.p1, s.p2, s.p3].take (lc.toNat + 1))
          err := .ok, acc := [], ses := .idle, busy := false, done := true }) ∧
    (s.op = .write →
      exec (txInstr h lc) s =
        .next
          (if s.flushOnSend = true then { s with txf := encodeFrame s.driveAddr h lc ([s.p0, s.p1, s.p2, s.p3].take (lc.toNat + 1)), busy := true, ses := .flushing }
          else
            { s with
              txf := encodeFrame s.driveAddr h lc ([s.p0, s.p1, s.p2, s.p3].take (lc.toNat + 1)), busy := true, ses := .writing
              obs := if s.debug = true then s.obs ++ [ObsRecord.mk .tx (encodeFrame s.driveAddr h lc ([s.p0, s.p1, s.p2, s.p3].take (lc.toNat + 1)))] else s.obs }))

/-- Every host-side identifier 0x00 to 0x1f under READ: looked up in HOST_MAP (under the latched command: log 6). Derived: 43_command_session.md section 4, 43_command_session.md section 3 (HOST_MAP as a parameter), 43_command_session.md section 1 (start). -/
def Obligations.HostIdentifiersUnderRead : Prop :=
  ∀ (h : Ident) (lc : LenCode) (s : State), s.op = .read →
    (s.hostMap[h.toFin] = none →
      exec (txInstr h lc) s = .next { s with err := .unknownFunc, acc := [], ses := .idle, busy := false, done := true }) ∧
    (∀ d : Ident, s.hostMap[h.toFin] = some d →
      exec (txInstr h lc) s =
        .next
          (if s.flushOnSend = true then { s with expf := d, txf := encodeFrame s.driveAddr h lc ([s.p0, s.p1, s.p2, s.p3].take (lc.toNat + 1)), busy := true, ses := .flushing }
          else
            { s with
              expf := d, txf := encodeFrame s.driveAddr h lc ([s.p0, s.p1, s.p2, s.p3].take (lc.toNat + 1)), busy := true, ses := .writing
              obs := if s.debug = true then s.obs ++ [ObsRecord.mk .tx (encodeFrame s.driveAddr h lc ([s.p0, s.p1, s.p2, s.p3].take (lc.toNat + 1)))] else s.obs }))

/-- A host-side identifier under GREAD carries the expected identifier as its one value, its own length code ignored (the model's choice, log 6). Derived: 43_command_session.md section 1 (start, GREAD), 43_command_session.md section 3 (GREAD_HOST_FUNC as a parameter). -/
def Obligations.HostIdentifiersUnderGeneralRead : Prop :=
  ∀ (h : Ident) (lc : LenCode) (s : State), s.op = .gread →
    exec (txInstr h lc) s =
      .next
          (if s.flushOnSend = true then { s with txf := encodeFrame s.driveAddr h 0 [BitVec.setWidth 7 s.expf], busy := true, ses := .flushing }
          else
            { s with
              txf := encodeFrame s.driveAddr h 0 [BitVec.setWidth 7 s.expf], busy := true, ses := .writing
              obs := if s.debug = true then s.obs ++ [ObsRecord.mk .tx (encodeFrame s.driveAddr h 0 [BitVec.setWidth 7 s.expf])] else s.obs })

/-- ENCODE builds the frame into S.txf and completes in the start step. Stated: R280. -/
def Obligations.EncodeCommandBuildsItsFrame : Prop :=
  (∀ (func : Ident) (lc : LenCode) (s : State), s.busy = false →
      exec (.encode func lc) s =
        .next { s with
          done := true, err := .ok, attempts := 0, resTag := .none, sawTimeout := false, sawCksum := false
          sawNonmatch := false, rxAny := false, rxFunc := 0, result0 := 0, result1 := 0
          op := .encode, txf := encodeFrame s.driveAddr func lc ([s.p0, s.p1, s.p2, s.p3].take (lc.toNat + 1))
          acc := [], ses := .idle, busy := false }) ∧
    (∀ w : Word, w &&& 0xFFFCE0FF#32 = 0x00000000#32 →
      decodeCmd w = .encode (w.extractLsb' 8 5) (w.extractLsb' 16 2)) ∧
    ∀ s : State, s.busy = false → s.driveAddr = 1#5 → readSlot s 1 = 0 →
      ∃ t : State, exec (decodeCmd 0x00001800#32) s = .next t ∧ readSlot t 6 = 0x99809801#32 ∧
        readSlot t 7 = 0x04000000#32

/-- WRITE: build, flush if enabled, transmit, complete on the count. Stated: R281. -/
def Obligations.WriteCommandSendsItsFrame : Prop :=
  (∀ (func : Ident) (lc : LenCode) (s : State), s.busy = false →
      exec (.write func lc) s =
        .next (if s.flushOnSend = true then
          { s with
          done := false, err := .ok, attempts := 0, resTag := .none, sawTimeout := false, sawCksum := false
          sawNonmatch := false, rxAny := false, rxFunc := 0, result0 := 0, result1 := 0
          op := .write, busy := true, txf := encodeFrame s.driveAddr func lc ([s.p0, s.p1, s.p2, s.p3].take (lc.toNat + 1))
          ses := .flushing }
        else
          { s with
          done := false, err := .ok, attempts := 0, resTag := .none, sawTimeout := false, sawCksum := false
          sawNonmatch := false, rxAny := false, rxFunc := 0, result0 := 0, result1 := 0
          op := .write, busy := true, txf := encodeFrame s.driveAddr func lc ([s.p0, s.p1, s.p2, s.p3].take (lc.toNat + 1))
          ses := .writing, obs := if s.debug = true then s.obs ++ [ObsRecord.mk .tx (encodeFrame s.driveAddr func lc ([s.p0, s.p1, s.p2, s.p3].take (lc.toNat + 1)))] else s.obs })) ∧
    (∀ w : Word, w &&& 0xFFFCE0FF#32 = 0x00000001#32 →
      decodeCmd w = .write (w.extractLsb' 8 5) (w.extractLsb' 16 2)) ∧
    ∀ (func : Ident) (lc : LenCode) (c : Nat) (rest : List Event) (s : State), s.busy = false →
      s.env = .hostWrite 2 (cmdWord 1#3 func lc) ::
        ((if s.flushOnSend = true then [.answer .flushAck] else []) ++ .answer (.count c) :: rest) →
      Sys2Proof.core.run (if s.flushOnSend = true then 3 else 2) s =
        .next { s with
          done := true, err := if c = 4 + lc.toNat then .ok else .transport, attempts := 0, resTag := .none, sawTimeout := false, sawCksum := false
          sawNonmatch := false, rxAny := false, rxFunc := 0, result0 := 0, result1 := 0
          op := .write, txf := encodeFrame s.driveAddr func lc ([s.p0, s.p1, s.p2, s.p3].take (lc.toNat + 1))
          obs := if s.debug = true then s.obs ++ [ObsRecord.mk .tx (encodeFrame s.driveAddr func lc ([s.p0, s.p1, s.p2, s.p3].take (lc.toNat + 1)))] else s.obs
          acc := [], ses := .idle, busy := false, env := rest }

/-- READ: look up, build, send, expect the mapped identifier. Derived: 43_command_session.md section 1 (start, READ arm), 43_command_session.md section 2 (READ). -/
def Obligations.ReadCommandRequestsItsMappedReply : Prop :=
  ∀ (h : Ident) (lc : LenCode) (s : State), s.busy = false →
    (s.hostMap[h.toFin] = none →
      exec (.read h lc) s =
        .next { s with
          done := true, err := .unknownFunc, attempts := 0, resTag := .none, sawTimeout := false, sawCksum := false
          sawNonmatch := false, rxAny := false, rxFunc := 0, result0 := 0, result1 := 0
          op := .read, acc := [], ses := .idle, busy := false }) ∧
    (∀ d : Ident, s.hostMap[h.toFin] = some d →
      exec (.read h lc) s =
        .next (if s.flushOnSend = true then
          { s with
          done := false, err := .ok, attempts := 0, resTag := .none, sawTimeout := false, sawCksum := false
          sawNonmatch := false, rxAny := false, rxFunc := 0, result0 := 0, result1 := 0
          op := .read, expf := d, busy := true, txf := encodeFrame s.driveAddr h lc ([s.p0, s.p1, s.p2, s.p3].take (lc.toNat + 1))
          ses := .flushing }
        else
          { s with
          done := false, err := .ok, attempts := 0, resTag := .none, sawTimeout := false, sawCksum := false
          sawNonmatch := false, rxAny := false, rxFunc := 0, result0 := 0, result1 := 0
          op := .read, expf := d, busy := true, txf := encodeFrame s.driveAddr h lc ([s.p0, s.p1, s.p2, s.p3].take (lc.toNat + 1))
          ses := .writing, obs := if s.debug = true then s.obs ++ [ObsRecord.mk .tx (encodeFrame s.driveAddr h lc ([s.p0, s.p1, s.p2, s.p3].take (lc.toNat + 1)))] else s.obs }))

/-- GREAD: guard, general-read request, expect the identifier. Derived: 43_command_session.md section 1 (start, GREAD arm), 43_command_session.md section 2 (GREAD), 40_frame_codec.md section 4 (the guard). -/
def Obligations.GreadCommandRequestsAGuardedIdentifier : Prop :=
  ∀ (g : Ident) (lc : LenCode) (s : State), s.busy = false →
    (¬ ((0x10 ≤ g.toNat ∧ g.toNat ≤ 0x1b) ∨ g.toNat = 0x1e) →
      exec (.gread g lc) s =
        .next { s with
          done := true, err := .unknownFunc, attempts := 0, resTag := .none, sawTimeout := false, sawCksum := false
          sawNonmatch := false, rxAny := false, rxFunc := 0, result0 := 0, result1 := 0
          op := .gread, acc := [], ses := .idle, busy := false }) ∧
    (((0x10 ≤ g.toNat ∧ g.toNat ≤ 0x1b) ∨ g.toNat = 0x1e) →
      exec (.gread g lc) s =
        .next (if s.flushOnSend = true then
          { s with
          done := false, err := .ok, attempts := 0, resTag := .none, sawTimeout := false, sawCksum := false
          sawNonmatch := false, rxAny := false, rxFunc := 0, result0 := 0, result1 := 0
          op := .gread, expf := g, busy := true, txf := encodeFrame s.driveAddr s.greadHostFunc 0 [BitVec.setWidth 7 g]
          ses := .flushing }
        else
          { s with
          done := false, err := .ok, attempts := 0, resTag := .none, sawTimeout := false, sawCksum := false
          sawNonmatch := false, rxAny := false, rxFunc := 0, result0 := 0, result1 := 0
          op := .gread, expf := g, busy := true, txf := encodeFrame s.driveAddr s.greadHostFunc 0 [BitVec.setWidth 7 g]
          ses := .writing, obs := if s.debug = true then s.obs ++ [ObsRecord.mk .tx (encodeFrame s.driveAddr s.greadHostFunc 0 [BitVec.setWidth 7 g])] else s.obs }))

/-- AWAIT (after its guard) and RECV begin their first attempt with nothing sent. Derived: 43_command_session.md section 1 (start, AWAIT and RECV arms), 43_command_session.md section 2 (AWAIT, RECV), 40_frame_codec.md section 4 (the guard). -/
def Obligations.AwaitAndRecvBeginAnAttempt : Prop :=
  ∀ (d : Ident) (lc : LenCode) (s : State), s.busy = false →
    (¬ ((0x10 ≤ d.toNat ∧ d.toNat ≤ 0x1b) ∨ d.toNat = 0x1e) →
      exec (.await d lc) s =
        .next { s with
          done := true, err := .unknownFunc, attempts := 0, resTag := .none, sawTimeout := false, sawCksum := false
          sawNonmatch := false, rxAny := false, rxFunc := 0, result0 := 0, result1 := 0
          op := .await, acc := [], ses := .idle, busy := false }) ∧
    (((0x10 ≤ d.toNat ∧ d.toNat ≤ 0x1b) ∨ d.toNat = 0x1e) →
      exec (.await d lc) s =
        .next { s with
          done := false, err := .ok, attempts := 0, resTag := .none, sawTimeout := false, sawCksum := false
          sawNonmatch := false, rxAny := false, rxFunc := 0, result0 := 0, result1 := 0
          op := .await, expf := d, busy := true, acc := [], ses := .reading }) ∧
    exec (.recv d lc) s =
      .next { s with
        done := false, err := .ok, attempts := 0, resTag := .none, sawTimeout := false, sawCksum := false
        sawNonmatch := false, rxAny := false, rxFunc := 0, result0 := 0, result1 := 0
        op := .recv, busy := true, acc := [], ses := .reading }

/-- FLUSH: one flush request, completed by its acknowledgement. Stated: R286. -/
def Obligations.FlushCommandRuns : Prop :=
  (∀ (func : Ident) (lc : LenCode) (s : State), s.busy = false →
      exec (.flush func lc) s =
        .next { s with
          done := false, err := .ok, attempts := 0, resTag := .none, sawTimeout := false, sawCksum := false
          sawNonmatch := false, rxAny := false, rxFunc := 0, result0 := 0, result1 := 0
          op := .flush, busy := true, ses := .flushing }) ∧
    (∀ w : Word, w &&& 0xFFFCE0FF#32 = 0x00000006#32 →
      decodeCmd w = .flush (w.extractLsb' 8 5) (w.extractLsb' 16 2)) ∧
    ∀ (func : Ident) (lc : LenCode) (rest : List Event) (s : State), s.busy = false →
      s.env = .hostWrite 2 (cmdWord 6#3 func lc) :: .answer .flushAck :: rest →
      ∃ t : State, Sys2Proof.core.run 2 s = .next t ∧
        t = { s with
            done := true, err := .ok, attempts := 0, resTag := .none, sawTimeout := false, sawCksum := false
            sawNonmatch := false, rxAny := false, rxFunc := 0, result0 := 0, result1 := 0
            op := .flush, acc := [], ses := .idle, busy := false, env := rest } ∧
        (s.overrun = false → readSlot t 3 = 0x00000002#32)

/-- Every illegal command word completes at once with ILLEGAL_CMD. Stated: R287. -/
def Obligations.IllegalWordCompletesWithItsError : Prop :=
  (∀ (w : Word) (s : State), s.busy = false →
      (w.extractLsb' 0 3 = 7#3 ∨ w.extractLsb' 3 5 ≠ 0 ∨ w.extractLsb' 13 3 ≠ 0 ∨ w.extractLsb' 18 14 ≠ 0) →
      decodeCmd w = .illegal w ∧
        exec (.illegal w) s =
          .next { s with
            done := true, err := .illegalCmd, attempts := 0, resTag := .none, sawTimeout := false, sawCksum := false
            sawNonmatch := false, rxAny := false, rxFunc := 0, result0 := 0, result1 := 0
            acc := [], ses := .idle, busy := false }) ∧
    (∀ s : State, s.busy = false → s.overrun = false →
      ∃ t : State, exec (decodeCmd 7#32) s = .next t ∧ readSlot t 3 = 0x00000092#32) ∧
    ∀ (w : Word) (s : State), s.busy = true → exec (.illegal w) s = .next { s with overrun := true }

/-- While a command is in progress, writes to CONFIG, PAYLOAD and COMMAND only set OVERRUN. Stated: R420. -/
def Obligations.WritesWhileBusyAreDropped : Prop :=
  ∀ (s : State) (v : Word), s.busy = true →
    hostWrite 0 v s = .next { s with overrun := true } ∧ hostWrite 1 v s = .next { s with overrun := true } ∧
    hostWrite 2 v s = .next { s with overrun := true } ∧
    exec (decodeCmd v) s = .next { s with overrun := true } ∧
    hostWrite 3 v s = .next { s with overrun := if v.getLsbD 30 = true then false else s.overrun } ∧
    (∀ idx : Slot, 4 ≤ idx.toNat → hostWrite idx v s = .next s) ∧
    (readSlot s 3).getLsbD 30 = s.overrun

/-- A host write to COMMAND runs the instruction its word decodes to (what step and withFetchWord add is the model's choice, log 1 and log 10). Derived: 00_scope.md section 6 (a step is one event), 43_command_session.md section 1 (start). -/
def Obligations.StepRunsTheWrittenCommand : Prop :=
  (∀ (w : Word) (rest : List Event) (s : State), s.pending = .hostWrite 2 w :: rest →
      step s = exec (decodeCmd w) { s with env := rest }) ∧
    ∀ (w : Word) (s : State), step (s.withFetchWord 32 w.toNat) = exec (decodeCmd w) s

/-- A byte that completes a checksum-valid frame runs the instruction its byte 1 decodes to (the instruction's place in the step is the model's choice, log 7). Derived: 43_command_session.md section 1 (reading, end_attempt, classify), 42_value_decoder.md section 1. -/
def Obligations.StepRunsTheInboundIdentifier : Prop :=
  ∀ (b : Byte) (rest : List Event) (s : State) (f : List Byte) (i : Instr), s.ses = .reading →
    s.pending = .answer (.byte b) :: rest → readerStep s.acc (.byte b) = ([], some (.frame f)) → cksOk f = true →
    decodeRx (f.getD 1 0) = .ok i →
    step s =
      exec i
        { s with
          env := rest, acc := [], attempts := s.attempts + 1, rxf := f, rxAny := true
          rxFunc := (f.getD 1 0).extractLsb' 0 5
          obs := if s.debug = true then s.obs ++ [ObsRecord.mk .rx f] else s.obs }

/-- ENCODE, WRITE, READ and GREAD run the instruction of the host-side identifier they carry (the model's reading, log 6). Derived: 43_command_session.md section 1 (start), 43_command_session.md section 4. -/
def Obligations.CommandsRunTheirOutboundIdentifier : Prop :=
  ∀ (func : Ident) (lc : LenCode) (s : State), s.busy = false →
    decodeTx (byte1 func lc) = .ok (txInstr func lc) ∧
    exec (.encode func lc) s = exec (txInstr func lc) { s with
      done := false, err := .ok, attempts := 0, resTag := .none, sawTimeout := false, sawCksum := false
      sawNonmatch := false, rxAny := false, rxFunc := 0, result0 := 0, result1 := 0
      op := .encode } ∧
    exec (.write func lc) s = exec (txInstr func lc) { s with
      done := false, err := .ok, attempts := 0, resTag := .none, sawTimeout := false, sawCksum := false
      sawNonmatch := false, rxAny := false, rxFunc := 0, result0 := 0, result1 := 0
      op := .write } ∧
    exec (.read func lc) s = exec (txInstr func lc) { s with
      done := false, err := .ok, attempts := 0, resTag := .none, sawTimeout := false, sawCksum := false
      sawNonmatch := false, rxAny := false, rxFunc := 0, result0 := 0, result1 := 0
      op := .read } ∧
    (((0x10 ≤ func.toNat ∧ func.toNat ≤ 0x1b) ∨ func.toNat = 0x1e) →
      exec (.gread func lc) s = exec (txInstr s.greadHostFunc 0) { s with
        done := false, err := .ok, attempts := 0, resTag := .none, sawTimeout := false, sawCksum := false
        sawNonmatch := false, rxAny := false, rxFunc := 0, result0 := 0, result1 := 0
        op := .gread, expf := func })

/-- What FlushAck and Count do. Stated: R265. -/
def Obligations.FlushAndWriteAnswersAdvanceTheSend : Prop :=
  ∀ (s : State) (rest : List Event) (c : Nat),
    (s.ses = .flushing → s.pending = .answer .flushAck :: rest →
      (s.op = .flush → step s = .next { s with env := rest, err := .ok, acc := [], ses := .idle, busy := false, done := true }) ∧
      (s.op ≠ .flush →
        step s = .next { s with
          env := rest, ses := .writing
          obs := if s.debug = true then s.obs ++ [ObsRecord.mk .tx (s.txf)] else s.obs })) ∧
    (s.ses = .writing → s.request = some (.write s.txf) ∧ (s.pending = .answer (.count c) :: rest →
      (c ≠ s.txf.length →
        step s = .next { s with env := rest, err := .transport, acc := [], ses := .idle, busy := false, done := true }) ∧
      (c = s.txf.length → s.op = .write → step s = .next { s with env := rest, err := .ok, acc := [], ses := .idle, busy := false, done := true }) ∧
      (c = s.txf.length → s.op ≠ .write →
        step s = .next { s with env := rest, busy := true, acc := [], ses := .reading })))

/-- A step in READING is the spec's reader_step, classify, end_attempt, retry_or_exhaust and exhaust_code. Stated: R267, R270, R271, R272, R273. -/
def Obligations.ReadingFollowsTheSpecsPseudocode : Prop :=
  ∀ (s : State) (a : ReadAnswer) (rest : List Event), s.ses = .reading →
    (s.op = .recv ∨ verifyFuncId s.expf = true) →
    s.pending =
      (match a with
      | .byte b => Event.answer (.byte b)
      | .timeout => .answer .timeout
      | .fail => .answer .fail) :: rest →
    step s =
      (match readerStep s.acc a with
      | (acc', none) => .next { s with env := rest, acc := acc' }
      | (acc', some o) => .next (specEndAttempt o { s with env := rest, acc := acc' }))

/-- No step of an attempt flushes or writes. Stated: R275. -/
def Obligations.RetriesNeverResend : Prop :=
  ∀ (s t : State) (a : TAnswer) (rest : List Event), s.ses = .reading → s.pending = .answer a :: rest →
    step s = .next t →
    (t.ses = .reading ∨ t.ses = .idle) ∧ t.request ≠ some .flush ∧ (∀ bs, t.request ≠ some (.write bs)) ∧
      t.txf = s.txf ∧ t.op = s.op ∧ t.expf = s.expf ∧
      ∃ rs : List ObsRecord, t.obs = s.obs ++ rs ∧ ∀ r ∈ rs, r.dir = .rx

/-- While a command is in progress no host access changes it. Derived: 43_command_session.md section 1 (transport answers are the only events that move the session), 70_reset_and_hazards.md section 3 (dropped writes). -/
def Obligations.HostAccessesNeverMoveABusySession : Prop :=
  ∀ (s t : State) (e : Event) (rest : List Event), s.busy = true →
    ((∃ idx, e = .hostRead idx) ∨ ∃ idx v, e = .hostWrite idx v) → s.pending = e :: rest → step s = .next t →
    t = { s with env := rest, overrun := t.overrun, rdata := t.rdata }

/-- The model's choice (log 4): an answer that does not fit the outstanding request leaves the block as it is. Derived: 20_memory.md section 3 (environment constraint), 70_reset_and_hazards.md section 1 (an answer to an abandoned request). -/
def Obligations.AnswersThatDoNotFitAreDropped : Prop :=
  ∀ (s : State) (a : TAnswer) (rest : List Event), s.pending = .answer a :: rest →
    (match s.request, a with
      | some .flush, .flushAck => False
      | some (.write _), .count _ => False
      | some .read1, .byte _ => False
      | some .read1, .timeout => False
      | some .read1, .fail => False
      | _, _ => True) →
    step s = .next { s with env := rest }

/-- Timeouts alone end every matching command after exactly the remaining attempts. Derived: 43_command_session.md section 1 (retry_or_exhaust, exhaust_code, termination), 60_exceptions.md section 1 (TIMEOUT). -/
def Obligations.TimeoutsExhaustTheBudget : Prop :=
  ∀ (s : State) (n : Nat) (rest : List Event), s.ses = .reading → Matching s.op → s.busy = true → s.done = false →
    s.attempts.toNat + n = s.maxAttempts.toNat → 0 < n →
    s.env = List.replicate n (.answer .timeout) ++ rest →
    (∀ k, k < n → ∃ t : State, Sys2Proof.core.run k s = .next t ∧ t.ses = .reading ∧ t.done = false ∧
      t.attempts.toNat = s.attempts.toNat + k) ∧
    Sys2Proof.core.run n s =
      .next { s with
        env := rest, attempts := s.maxAttempts, sawTimeout := true, acc := [], ses := .idle, busy := false, done := true
        err := if s.sawNonmatch = true then .unexpectedFunc else if s.sawCksum = true then .checksum else .timeout }

/-- Two non-matching frames and a matching one succeed on attempt 3; three non-matching ones fail. Derived: 43_command_session.md section 3 (the source's retry property), 95_test_vectors.md section 1 (E7). -/
def Obligations.ThirdAttemptDecidesAReadOfThree : Prop :=
  ∀ (s : State) (f1 f2 f3 : List Byte) (rest : List Event), s.ses = .reading → Matching s.op → s.busy = true →
    s.maxAttempts = 3 → s.attempts = 0 → verifyFuncId s.expf = true → s.resTag = .none →
    FrameShape f1 → FrameShape f2 → FrameShape f3 → cksOk f1 = true → cksOk f2 = true → cksOk f3 = true →
    identOf (f1.getD 1 0) ≠ s.expf → identOf (f2.getD 1 0) ≠ s.expf →
    s.env = (f1 ++ f2 ++ f3).map (fun b => .answer (.byte b)) ++ rest →
    ∃ t : State, Sys2Proof.core.run (f1 ++ f2 ++ f3).length s = .next t ∧ t.ses = .idle ∧ t.done = true ∧
      t.busy = false ∧ t.attempts = 3 ∧ t.sawNonmatch = true ∧ t.rxf = f3 ∧ t.env = rest ∧ t.txf = s.txf ∧
      (∀ v : Value, identOf (f3.getD 1 0) = s.expf → specDecode f3 = .value v →
        t.err = .ok ∧ t.resTag = v.tag ∧ t.result0 = v.r0 ∧ t.result1 = v.r1) ∧
      (identOf (f3.getD 1 0) ≠ s.expf → t.err = .unexpectedFunc ∧ t.resTag = .none)

/-- A decoded value appears only from a completed, checksum-valid frame of a typed identifier with the right length. Derived: 42_value_decoder.md section 1 (no value from an unallowed or unknown identifier), 43_command_session.md section 1 (classify), 40_frame_codec.md section 3 (cks_ok). -/
def Obligations.ResultsComeOnlyFromValidTypedFrames : Prop :=
  ∀ s t : State, s.resTag = .none → step s = .next t → t.resTag ≠ .none →
    (∃ (b : Byte) (rest : List Event), s.pending = .answer (.byte b) :: rest ∧
      readerStep s.acc (.byte b) = ([], some (.frame t.rxf))) ∧
      t.attempts = s.attempts + 1 ∧ t.rxAny = true ∧
      s.ses = .reading ∧ t.ses = .idle ∧ t.done = true ∧ t.err = .ok ∧ cksOk t.rxf = true ∧
      verifyFuncId (identOf (t.rxf.getD 1 0)) = true ∧ (s.op = .recv ∨ identOf (t.rxf.getD 1 0) = s.expf) ∧
      specDecode t.rxf = .value ⟨t.resTag, t.result0, t.result1⟩

/-- Nothing is observed with DEBUG off, and with DEBUG on exactly the frame sent or completed in the step. Derived: 60_exceptions.md section 5 (debug), 20_memory.md section 4 (the observation port). -/
def Obligations.ObservationOnlyInDebug : Prop :=
  ∀ s t : State, step s = .next t →
    (s.debug = false → t.obs = s.obs) ∧
    (t.obs = s.obs ∨
      (t.obs = s.obs ++ [ObsRecord.mk .tx t.txf] ∧ t.ses = .writing ∧ (SessionInv s → s.ses ≠ .writing)) ∨
      (t.obs = s.obs ++ [ObsRecord.mk .rx t.rxf] ∧ s.ses = .reading ∧ t.rxAny = true ∧
        t.attempts = s.attempts + 1 ∧ t.acc = [] ∧
        ∃ (b : Byte) (rest : List Event), s.pending = .answer (.byte b) :: rest ∧
          readerStep s.acc (.byte b) = ([], some (.frame t.rxf)))) ∧
    (s.debug = true →
      (s.ses ≠ .writing → t.ses = .writing → t.obs = s.obs ++ [ObsRecord.mk .tx t.txf]) ∧
      ∀ (b : Byte) (rest : List Event) (f : List Byte), s.ses = .reading → s.pending = .answer (.byte b) :: rest →
        readerStep s.acc (.byte b) = ([], some (.frame f)) → t.rxf = f ∧ t.obs = s.obs ++ [ObsRecord.mk .rx f])

/-- What a host write does, slot by slot. Stated: R62, R64. -/
def Obligations.HostWritesBySlot : Prop :=
  ∀ (s : State) (v : Word),
    (s.busy = false →
      hostWrite 0 v s =
        .next { s with
          driveAddr := v.extractLsb' 0 5, debug := v.getLsbD 8, flushOnSend := v.getLsbD 9
          maxAttempts := if v.extractLsb' 16 4 = 0#4 then 1#4 else v.extractLsb' 16 4 } ∧
      hostWrite 1 v s =
        .next { s with
          p0 := v.extractLsb' 0 7, p1 := v.extractLsb' 8 7, p2 := v.extractLsb' 16 7, p3 := v.extractLsb' 24 7 } ∧
      hostWrite 2 v s = exec (decodeCmd v) s) ∧
    (s.busy = true →
      hostWrite 0 v s = .next { s with overrun := true } ∧ hostWrite 1 v s = .next { s with overrun := true } ∧
      hostWrite 2 v s = .next { s with overrun := true }) ∧
    hostWrite 3 v s = .next { s with overrun := if v.getLsbD 30 = true then false else s.overrun } ∧
    ∀ idx : Slot, (4 ≤ idx.toNat → hostWrite idx v s = .next s) ∧ (0xA ≤ idx.toNat → readSlot s idx = 0)

/-- What the host reads back from CONFIG and PAYLOAD after writing them. Derived: 10_state.md sections 2.1 and 2.2, 95_test_vectors.md section 2.5. -/
def Obligations.ConfigAndPayloadReadBack : Prop :=
  (∀ (s t : State) (v : Word), s.busy = false → hostWrite 0 v s = .next t →
      readSlot t 0 =
        (if v &&& 0x000F0000#32 = 0#32 then (v &&& 0x0000031F#32) ||| 0x00010000#32 else v &&& 0x000F031F#32)) ∧
    (∀ (s t : State) (v : Word), s.busy = false → hostWrite 1 v s = .next t →
      readSlot t 1 = v &&& 0x7F7F7F7F#32) ∧
    ∀ s : State, readSlot s 0 &&& 0xFFF0FCE0#32 = 0#32 ∧ readSlot s 1 &&& 0x80808080#32 = 0#32 ∧
      readSlot s 3 &&& 0xBE00000C#32 = 0#32

/-- A host read changes no register, and two reads in a row agree. Stated: R63. -/
def Obligations.HostReadsHaveNoSideEffects : Prop :=
  ∀ (s : State) (idx : Slot) (rest : List Event), s.pending = .hostRead idx :: rest →
    step s = .next { s with env := rest, rdata := readSlot s idx } ∧ readSlot s 2 = 0 ∧
      ∀ rest' : List Event, rest = .hostRead idx :: rest' →
        Sys2Proof.core.run 2 s = .next { s with env := rest', rdata := readSlot s idx }

/-- The bits of STATUS and the numbers of its codes. Derived: 10_state.md section 2.4, 60_exceptions.md section 1 (codes). -/
def Obligations.StatusWordLayout : Prop :=
  (∀ s : State,
      (readSlot s 3).getLsbD 0 = s.busy ∧ (readSlot s 3).getLsbD 1 = s.done ∧
      (readSlot s 3).extractLsb' 4 4 = errNumber s.err ∧ (readSlot s 3).extractLsb' 8 4 = s.attempts ∧
      (readSlot s 3).extractLsb' 12 4 = tagNumber s.resTag ∧ (readSlot s 3).getLsbD 16 = s.sawTimeout ∧
      (readSlot s 3).getLsbD 17 = s.sawCksum ∧ (readSlot s 3).getLsbD 18 = s.sawNonmatch ∧
      (readSlot s 3).getLsbD 19 = s.rxAny ∧ (readSlot s 3).extractLsb' 20 5 = s.rxFunc ∧
      (readSlot s 3).getLsbD 30 = s.overrun ∧ doneIrq s = (readSlot s 3).getLsbD 1) ∧
    [ErrCode.ok, .transport, .timeout, .checksum, .length, .unknownFunc, .unexpectedFunc, .unallowed, .unrecognized,
      .illegalCmd].map errNumber = [0, 1, 2, 3, 4, 5, 6, 7, 8, 9] ∧
    [ResTag.none, .scalar7, .signed, .gearPair, .statusRecord, .configRecord].map tagNumber = [0, 1, 2, 3, 4, 5]

/-- The lanes of TXF and RXF. Stated: R69. -/
def Obligations.FrameRegistersShowTheirBuffers : Prop :=
  ∀ s : State,
    (∀ i, i < 4 → (readSlot s 6).extractLsb' (8 * i) 8 = s.txf.getD i 0 ∧
      (readSlot s 8).extractLsb' (8 * i) 8 = s.rxf.getD i 0) ∧
    (∀ i, 4 ≤ i → i < 7 → (readSlot s 7).extractLsb' (8 * (i - 4)) 8 = s.txf.getD i 0 ∧
      (readSlot s 9).extractLsb' (8 * (i - 4)) 8 = s.rxf.getD i 0) ∧
    (s.txf.length < 256 → ((readSlot s 7).extractLsb' 24 8).toNat = s.txf.length) ∧
    (s.rxf.length < 256 → ((readSlot s 9).extractLsb' 24 8).toNat = s.rxf.length) ∧
    readSlot s 4 = s.result0 ∧ readSlot s 5 = s.result1

/-- What starting a command clears, and what it does not. Stated: R262. -/
def Obligations.CommandStartClearsTheLastStatus : Prop :=
  ∀ s : State,
    clearForStart s = { s with
        done := false, err := .ok, attempts := 0, resTag := .none, sawTimeout := false, sawCksum := false
        sawNonmatch := false, rxAny := false, rxFunc := 0, result0 := 0, result1 := 0
        overrun := s.overrun } ∧
      ∀ k, s.busy = false → startCommand s k = k (clearForStart s)

/-- finish: how every command completes. Stated: R356. -/
def Obligations.CompletionIsFinish : Prop :=
  ∀ (s : State) (e : ErrCode) (v : Value),
    finish e none s = { s with err := e, acc := [], ses := .idle, busy := false, done := true } ∧
    finish .ok (some v) s =
      { s with err := .ok, resTag := v.tag, result0 := v.r0, result1 := v.r1, acc := [], ses := .idle, busy := false, done := true } ∧
    (e ≠ .ok → finish e (some v) s = { s with err := e, acc := [], ses := .idle, busy := false, done := true })

/-- Reset at any step (that it keeps env, again, obs and rdata is the model's choice: log 1, log 2, log 15). Derived: 70_reset_and_hazards.md section 1 (reset, what reset does not touch), 10_state.md section 5 (reset values). -/
def Obligations.ResetPutsEveryElementAtItsResetValue : Prop :=
  ∀ (s : State) (rest : List Event), s.pending = .reset :: rest →
    ∃ t : State, step s = .next t ∧ readSlot t 0 = 0x00030200#32 ∧ readSlot t 1 = 0 ∧ readSlot t 3 = 0 ∧
      t.result0 = 0 ∧ t.result1 = 0 ∧ t.txf = [] ∧ t.rxf = [] ∧ t.ses = .idle ∧ t.op = .encode ∧ t.expf = 0 ∧
      t.acc = [] ∧ t.request = none ∧ doneIrq t = false ∧ t.obs = s.obs ∧ t.env = rest ∧ t.again = s.again ∧ t.hostMap = s.hostMap ∧
      t.greadHostFunc = s.greadHostFunc ∧ t.rdata = s.rdata ∧
      t = { State.reset with
        hostMap := s.hostMap, greadHostFunc := s.greadHostFunc, env := rest, again := s.again, obs := s.obs
        rdata := s.rdata }

/-- The state after reset satisfies the invariant. Derived: 10_state.md section 5, 43_command_session.md section 1 (invariants). -/
def Obligations.ResetSatisfiesTheInvariant : Prop :=
  Inv State.reset

/-- Every step keeps the session, attempt, result, buffer and expectation invariants. Derived: 43_command_session.md section 1 (invariants, transition table), 10_state.md sections 2 and 3, 41_frame_reader.md section 2. -/
def Obligations.EveryStepKeepsTheInvariant : Prop :=
  ∀ s t : State, Inv s → step s = .next t → Inv t

/-- Every step of every state answers a next state, and every instruction runs in every state (log 3, log 12). Derived: 60_exceptions.md section 1 (model of errors), 60_exceptions.md section 2 (return from an error). -/
def Obligations.TheMachineNeverStops : Prop :=
  (∀ s : State, ∃ t : State, step s = .next t) ∧ ∀ (i : Instr) (s : State), ∃ t : State, exec i s = .next t
end

