-- ==== Sys2Proof/Laws/State.lean ====
section
/-! SUPPORT. One lemma for each field of each named update of the state: what the update makes of the field. Later
proofs simplify with these and unfold no update. -/

namespace Sys2Proof.Machine

/-! ### clearForStart -/

@[simp] theorem clearForStart_driveAddr (s : State) : (clearForStart s).driveAddr = s.driveAddr := rfl
@[simp] theorem clearForStart_debug (s : State) : (clearForStart s).debug = s.debug := rfl
@[simp] theorem clearForStart_flushOnSend (s : State) : (clearForStart s).flushOnSend = s.flushOnSend := rfl
@[simp] theorem clearForStart_maxAttempts (s : State) : (clearForStart s).maxAttempts = s.maxAttempts := rfl
@[simp] theorem clearForStart_p0 (s : State) : (clearForStart s).p0 = s.p0 := rfl
@[simp] theorem clearForStart_p1 (s : State) : (clearForStart s).p1 = s.p1 := rfl
@[simp] theorem clearForStart_p2 (s : State) : (clearForStart s).p2 = s.p2 := rfl
@[simp] theorem clearForStart_p3 (s : State) : (clearForStart s).p3 = s.p3 := rfl
@[simp] theorem clearForStart_busy (s : State) : (clearForStart s).busy = s.busy := rfl
@[simp] theorem clearForStart_done (s : State) : (clearForStart s).done = false := rfl
@[simp] theorem clearForStart_err (s : State) : (clearForStart s).err = .ok := rfl
@[simp] theorem clearForStart_attempts (s : State) : (clearForStart s).attempts = 0 := rfl
@[simp] theorem clearForStart_resTag (s : State) : (clearForStart s).resTag = .none := rfl
@[simp] theorem clearForStart_sawTimeout (s : State) : (clearForStart s).sawTimeout = false := rfl
@[simp] theorem clearForStart_sawCksum (s : State) : (clearForStart s).sawCksum = false := rfl
@[simp] theorem clearForStart_sawNonmatch (s : State) : (clearForStart s).sawNonmatch = false := rfl
@[simp] theorem clearForStart_rxAny (s : State) : (clearForStart s).rxAny = false := rfl
@[simp] theorem clearForStart_rxFunc (s : State) : (clearForStart s).rxFunc = 0 := rfl
@[simp] theorem clearForStart_overrun (s : State) : (clearForStart s).overrun = s.overrun := rfl
@[simp] theorem clearForStart_result0 (s : State) : (clearForStart s).result0 = 0 := rfl
@[simp] theorem clearForStart_result1 (s : State) : (clearForStart s).result1 = 0 := rfl
@[simp] theorem clearForStart_txf (s : State) : (clearForStart s).txf = s.txf := rfl
@[simp] theorem clearForStart_rxf (s : State) : (clearForStart s).rxf = s.rxf := rfl
@[simp] theorem clearForStart_ses (s : State) : (clearForStart s).ses = s.ses := rfl
@[simp] theorem clearForStart_op (s : State) : (clearForStart s).op = s.op := rfl
@[simp] theorem clearForStart_expf (s : State) : (clearForStart s).expf = s.expf := rfl
@[simp] theorem clearForStart_acc (s : State) : (clearForStart s).acc = s.acc := rfl
@[simp] theorem clearForStart_hostMap (s : State) : (clearForStart s).hostMap = s.hostMap := rfl
@[simp] theorem clearForStart_greadHostFunc (s : State) : (clearForStart s).greadHostFunc = s.greadHostFunc := rfl
@[simp] theorem clearForStart_env (s : State) : (clearForStart s).env = s.env := rfl
@[simp] theorem clearForStart_again (s : State) : (clearForStart s).again = s.again := rfl
@[simp] theorem clearForStart_obs (s : State) : (clearForStart s).obs = s.obs := rfl
@[simp] theorem clearForStart_rdata (s : State) : (clearForStart s).rdata = s.rdata := rfl

/-! ### countAttempt -/

@[simp] theorem countAttempt_driveAddr (s : State) : (countAttempt s).driveAddr = s.driveAddr := rfl
@[simp] theorem countAttempt_debug (s : State) : (countAttempt s).debug = s.debug := rfl
@[simp] theorem countAttempt_flushOnSend (s : State) : (countAttempt s).flushOnSend = s.flushOnSend := rfl
@[simp] theorem countAttempt_maxAttempts (s : State) : (countAttempt s).maxAttempts = s.maxAttempts := rfl
@[simp] theorem countAttempt_p0 (s : State) : (countAttempt s).p0 = s.p0 := rfl
@[simp] theorem countAttempt_p1 (s : State) : (countAttempt s).p1 = s.p1 := rfl
@[simp] theorem countAttempt_p2 (s : State) : (countAttempt s).p2 = s.p2 := rfl
@[simp] theorem countAttempt_p3 (s : State) : (countAttempt s).p3 = s.p3 := rfl
@[simp] theorem countAttempt_busy (s : State) : (countAttempt s).busy = s.busy := rfl
@[simp] theorem countAttempt_done (s : State) : (countAttempt s).done = s.done := rfl
@[simp] theorem countAttempt_err (s : State) : (countAttempt s).err = s.err := rfl
@[simp] theorem countAttempt_attempts (s : State) : (countAttempt s).attempts = s.attempts + 1 := rfl
@[simp] theorem countAttempt_resTag (s : State) : (countAttempt s).resTag = s.resTag := rfl
@[simp] theorem countAttempt_sawTimeout (s : State) : (countAttempt s).sawTimeout = s.sawTimeout := rfl
@[simp] theorem countAttempt_sawCksum (s : State) : (countAttempt s).sawCksum = s.sawCksum := rfl
@[simp] theorem countAttempt_sawNonmatch (s : State) : (countAttempt s).sawNonmatch = s.sawNonmatch := rfl
@[simp] theorem countAttempt_rxAny (s : State) : (countAttempt s).rxAny = s.rxAny := rfl
@[simp] theorem countAttempt_rxFunc (s : State) : (countAttempt s).rxFunc = s.rxFunc := rfl
@[simp] theorem countAttempt_overrun (s : State) : (countAttempt s).overrun = s.overrun := rfl
@[simp] theorem countAttempt_result0 (s : State) : (countAttempt s).result0 = s.result0 := rfl
@[simp] theorem countAttempt_result1 (s : State) : (countAttempt s).result1 = s.result1 := rfl
@[simp] theorem countAttempt_txf (s : State) : (countAttempt s).txf = s.txf := rfl
@[simp] theorem countAttempt_rxf (s : State) : (countAttempt s).rxf = s.rxf := rfl
@[simp] theorem countAttempt_ses (s : State) : (countAttempt s).ses = s.ses := rfl
@[simp] theorem countAttempt_op (s : State) : (countAttempt s).op = s.op := rfl
@[simp] theorem countAttempt_expf (s : State) : (countAttempt s).expf = s.expf := rfl
@[simp] theorem countAttempt_acc (s : State) : (countAttempt s).acc = s.acc := rfl
@[simp] theorem countAttempt_hostMap (s : State) : (countAttempt s).hostMap = s.hostMap := rfl
@[simp] theorem countAttempt_greadHostFunc (s : State) : (countAttempt s).greadHostFunc = s.greadHostFunc := rfl
@[simp] theorem countAttempt_env (s : State) : (countAttempt s).env = s.env := rfl
@[simp] theorem countAttempt_again (s : State) : (countAttempt s).again = s.again := rfl
@[simp] theorem countAttempt_obs (s : State) : (countAttempt s).obs = s.obs := rfl
@[simp] theorem countAttempt_rdata (s : State) : (countAttempt s).rdata = s.rdata := rfl

/-! ### noteTimeout -/

@[simp] theorem noteTimeout_driveAddr (s : State) : (noteTimeout s).driveAddr = s.driveAddr := rfl
@[simp] theorem noteTimeout_debug (s : State) : (noteTimeout s).debug = s.debug := rfl
@[simp] theorem noteTimeout_flushOnSend (s : State) : (noteTimeout s).flushOnSend = s.flushOnSend := rfl
@[simp] theorem noteTimeout_maxAttempts (s : State) : (noteTimeout s).maxAttempts = s.maxAttempts := rfl
@[simp] theorem noteTimeout_p0 (s : State) : (noteTimeout s).p0 = s.p0 := rfl
@[simp] theorem noteTimeout_p1 (s : State) : (noteTimeout s).p1 = s.p1 := rfl
@[simp] theorem noteTimeout_p2 (s : State) : (noteTimeout s).p2 = s.p2 := rfl
@[simp] theorem noteTimeout_p3 (s : State) : (noteTimeout s).p3 = s.p3 := rfl
@[simp] theorem noteTimeout_busy (s : State) : (noteTimeout s).busy = s.busy := rfl
@[simp] theorem noteTimeout_done (s : State) : (noteTimeout s).done = s.done := rfl
@[simp] theorem noteTimeout_err (s : State) : (noteTimeout s).err = s.err := rfl
@[simp] theorem noteTimeout_attempts (s : State) : (noteTimeout s).attempts = s.attempts := rfl
@[simp] theorem noteTimeout_resTag (s : State) : (noteTimeout s).resTag = s.resTag := rfl
@[simp] theorem noteTimeout_sawTimeout (s : State) : (noteTimeout s).sawTimeout = true := rfl
@[simp] theorem noteTimeout_sawCksum (s : State) : (noteTimeout s).sawCksum = s.sawCksum := rfl
@[simp] theorem noteTimeout_sawNonmatch (s : State) : (noteTimeout s).sawNonmatch = s.sawNonmatch := rfl
@[simp] theorem noteTimeout_rxAny (s : State) : (noteTimeout s).rxAny = s.rxAny := rfl
@[simp] theorem noteTimeout_rxFunc (s : State) : (noteTimeout s).rxFunc = s.rxFunc := rfl
@[simp] theorem noteTimeout_overrun (s : State) : (noteTimeout s).overrun = s.overrun := rfl
@[simp] theorem noteTimeout_result0 (s : State) : (noteTimeout s).result0 = s.result0 := rfl
@[simp] theorem noteTimeout_result1 (s : State) : (noteTimeout s).result1 = s.result1 := rfl
@[simp] theorem noteTimeout_txf (s : State) : (noteTimeout s).txf = s.txf := rfl
@[simp] theorem noteTimeout_rxf (s : State) : (noteTimeout s).rxf = s.rxf := rfl
@[simp] theorem noteTimeout_ses (s : State) : (noteTimeout s).ses = s.ses := rfl
@[simp] theorem noteTimeout_op (s : State) : (noteTimeout s).op = s.op := rfl
@[simp] theorem noteTimeout_expf (s : State) : (noteTimeout s).expf = s.expf := rfl
@[simp] theorem noteTimeout_acc (s : State) : (noteTimeout s).acc = s.acc := rfl
@[simp] theorem noteTimeout_hostMap (s : State) : (noteTimeout s).hostMap = s.hostMap := rfl
@[simp] theorem noteTimeout_greadHostFunc (s : State) : (noteTimeout s).greadHostFunc = s.greadHostFunc := rfl
@[simp] theorem noteTimeout_env (s : State) : (noteTimeout s).env = s.env := rfl
@[simp] theorem noteTimeout_again (s : State) : (noteTimeout s).again = s.again := rfl
@[simp] theorem noteTimeout_obs (s : State) : (noteTimeout s).obs = s.obs := rfl
@[simp] theorem noteTimeout_rdata (s : State) : (noteTimeout s).rdata = s.rdata := rfl

/-! ### noteCksum -/

@[simp] theorem noteCksum_driveAddr (s : State) : (noteCksum s).driveAddr = s.driveAddr := rfl
@[simp] theorem noteCksum_debug (s : State) : (noteCksum s).debug = s.debug := rfl
@[simp] theorem noteCksum_flushOnSend (s : State) : (noteCksum s).flushOnSend = s.flushOnSend := rfl
@[simp] theorem noteCksum_maxAttempts (s : State) : (noteCksum s).maxAttempts = s.maxAttempts := rfl
@[simp] theorem noteCksum_p0 (s : State) : (noteCksum s).p0 = s.p0 := rfl
@[simp] theorem noteCksum_p1 (s : State) : (noteCksum s).p1 = s.p1 := rfl
@[simp] theorem noteCksum_p2 (s : State) : (noteCksum s).p2 = s.p2 := rfl
@[simp] theorem noteCksum_p3 (s : State) : (noteCksum s).p3 = s.p3 := rfl
@[simp] theorem noteCksum_busy (s : State) : (noteCksum s).busy = s.busy := rfl
@[simp] theorem noteCksum_done (s : State) : (noteCksum s).done = s.done := rfl
@[simp] theorem noteCksum_err (s : State) : (noteCksum s).err = s.err := rfl
@[simp] theorem noteCksum_attempts (s : State) : (noteCksum s).attempts = s.attempts := rfl
@[simp] theorem noteCksum_resTag (s : State) : (noteCksum s).resTag = s.resTag := rfl
@[simp] theorem noteCksum_sawTimeout (s : State) : (noteCksum s).sawTimeout = s.sawTimeout := rfl
@[simp] theorem noteCksum_sawCksum (s : State) : (noteCksum s).sawCksum = true := rfl
@[simp] theorem noteCksum_sawNonmatch (s : State) : (noteCksum s).sawNonmatch = s.sawNonmatch := rfl
@[simp] theorem noteCksum_rxAny (s : State) : (noteCksum s).rxAny = s.rxAny := rfl
@[simp] theorem noteCksum_rxFunc (s : State) : (noteCksum s).rxFunc = s.rxFunc := rfl
@[simp] theorem noteCksum_overrun (s : State) : (noteCksum s).overrun = s.overrun := rfl
@[simp] theorem noteCksum_result0 (s : State) : (noteCksum s).result0 = s.result0 := rfl
@[simp] theorem noteCksum_result1 (s : State) : (noteCksum s).result1 = s.result1 := rfl
@[simp] theorem noteCksum_txf (s : State) : (noteCksum s).txf = s.txf := rfl
@[simp] theorem noteCksum_rxf (s : State) : (noteCksum s).rxf = s.rxf := rfl
@[simp] theorem noteCksum_ses (s : State) : (noteCksum s).ses = s.ses := rfl
@[simp] theorem noteCksum_op (s : State) : (noteCksum s).op = s.op := rfl
@[simp] theorem noteCksum_expf (s : State) : (noteCksum s).expf = s.expf := rfl
@[simp] theorem noteCksum_acc (s : State) : (noteCksum s).acc = s.acc := rfl
@[simp] theorem noteCksum_hostMap (s : State) : (noteCksum s).hostMap = s.hostMap := rfl
@[simp] theorem noteCksum_greadHostFunc (s : State) : (noteCksum s).greadHostFunc = s.greadHostFunc := rfl
@[simp] theorem noteCksum_env (s : State) : (noteCksum s).env = s.env := rfl
@[simp] theorem noteCksum_again (s : State) : (noteCksum s).again = s.again := rfl
@[simp] theorem noteCksum_obs (s : State) : (noteCksum s).obs = s.obs := rfl
@[simp] theorem noteCksum_rdata (s : State) : (noteCksum s).rdata = s.rdata := rfl

/-! ### noteNonmatch -/

@[simp] theorem noteNonmatch_driveAddr (s : State) : (noteNonmatch s).driveAddr = s.driveAddr := rfl
@[simp] theorem noteNonmatch_debug (s : State) : (noteNonmatch s).debug = s.debug := rfl
@[simp] theorem noteNonmatch_flushOnSend (s : State) : (noteNonmatch s).flushOnSend = s.flushOnSend := rfl
@[simp] theorem noteNonmatch_maxAttempts (s : State) : (noteNonmatch s).maxAttempts = s.maxAttempts := rfl
@[simp] theorem noteNonmatch_p0 (s : State) : (noteNonmatch s).p0 = s.p0 := rfl
@[simp] theorem noteNonmatch_p1 (s : State) : (noteNonmatch s).p1 = s.p1 := rfl
@[simp] theorem noteNonmatch_p2 (s : State) : (noteNonmatch s).p2 = s.p2 := rfl
@[simp] theorem noteNonmatch_p3 (s : State) : (noteNonmatch s).p3 = s.p3 := rfl
@[simp] theorem noteNonmatch_busy (s : State) : (noteNonmatch s).busy = s.busy := rfl
@[simp] theorem noteNonmatch_done (s : State) : (noteNonmatch s).done = s.done := rfl
@[simp] theorem noteNonmatch_err (s : State) : (noteNonmatch s).err = s.err := rfl
@[simp] theorem noteNonmatch_attempts (s : State) : (noteNonmatch s).attempts = s.attempts := rfl
@[simp] theorem noteNonmatch_resTag (s : State) : (noteNonmatch s).resTag = s.resTag := rfl
@[simp] theorem noteNonmatch_sawTimeout (s : State) : (noteNonmatch s).sawTimeout = s.sawTimeout := rfl
@[simp] theorem noteNonmatch_sawCksum (s : State) : (noteNonmatch s).sawCksum = s.sawCksum := rfl
@[simp] theorem noteNonmatch_sawNonmatch (s : State) : (noteNonmatch s).sawNonmatch = true := rfl
@[simp] theorem noteNonmatch_rxAny (s : State) : (noteNonmatch s).rxAny = s.rxAny := rfl
@[simp] theorem noteNonmatch_rxFunc (s : State) : (noteNonmatch s).rxFunc = s.rxFunc := rfl
@[simp] theorem noteNonmatch_overrun (s : State) : (noteNonmatch s).overrun = s.overrun := rfl
@[simp] theorem noteNonmatch_result0 (s : State) : (noteNonmatch s).result0 = s.result0 := rfl
@[simp] theorem noteNonmatch_result1 (s : State) : (noteNonmatch s).result1 = s.result1 := rfl
@[simp] theorem noteNonmatch_txf (s : State) : (noteNonmatch s).txf = s.txf := rfl
@[simp] theorem noteNonmatch_rxf (s : State) : (noteNonmatch s).rxf = s.rxf := rfl
@[simp] theorem noteNonmatch_ses (s : State) : (noteNonmatch s).ses = s.ses := rfl
@[simp] theorem noteNonmatch_op (s : State) : (noteNonmatch s).op = s.op := rfl
@[simp] theorem noteNonmatch_expf (s : State) : (noteNonmatch s).expf = s.expf := rfl
@[simp] theorem noteNonmatch_acc (s : State) : (noteNonmatch s).acc = s.acc := rfl
@[simp] theorem noteNonmatch_hostMap (s : State) : (noteNonmatch s).hostMap = s.hostMap := rfl
@[simp] theorem noteNonmatch_greadHostFunc (s : State) : (noteNonmatch s).greadHostFunc = s.greadHostFunc := rfl
@[simp] theorem noteNonmatch_env (s : State) : (noteNonmatch s).env = s.env := rfl
@[simp] theorem noteNonmatch_again (s : State) : (noteNonmatch s).again = s.again := rfl
@[simp] theorem noteNonmatch_obs (s : State) : (noteNonmatch s).obs = s.obs := rfl
@[simp] theorem noteNonmatch_rdata (s : State) : (noteNonmatch s).rdata = s.rdata := rfl

/-! ### setConfig -/

@[simp] theorem setConfig_driveAddr (v : Word) (s : State) : (setConfig s v).driveAddr = v.extractLsb' 0 5 := rfl
@[simp] theorem setConfig_debug (v : Word) (s : State) : (setConfig s v).debug = v.getLsbD 8 := rfl
@[simp] theorem setConfig_flushOnSend (v : Word) (s : State) : (setConfig s v).flushOnSend = v.getLsbD 9 := rfl
@[simp] theorem setConfig_maxAttempts (v : Word) (s : State) : (setConfig s v).maxAttempts = legalMaxAttempts (v.extractLsb' 16 4) := rfl
@[simp] theorem setConfig_p0 (v : Word) (s : State) : (setConfig s v).p0 = s.p0 := rfl
@[simp] theorem setConfig_p1 (v : Word) (s : State) : (setConfig s v).p1 = s.p1 := rfl
@[simp] theorem setConfig_p2 (v : Word) (s : State) : (setConfig s v).p2 = s.p2 := rfl
@[simp] theorem setConfig_p3 (v : Word) (s : State) : (setConfig s v).p3 = s.p3 := rfl
@[simp] theorem setConfig_busy (v : Word) (s : State) : (setConfig s v).busy = s.busy := rfl
@[simp] theorem setConfig_done (v : Word) (s : State) : (setConfig s v).done = s.done := rfl
@[simp] theorem setConfig_err (v : Word) (s : State) : (setConfig s v).err = s.err := rfl
@[simp] theorem setConfig_attempts (v : Word) (s : State) : (setConfig s v).attempts = s.attempts := rfl
@[simp] theorem setConfig_resTag (v : Word) (s : State) : (setConfig s v).resTag = s.resTag := rfl
@[simp] theorem setConfig_sawTimeout (v : Word) (s : State) : (setConfig s v).sawTimeout = s.sawTimeout := rfl
@[simp] theorem setConfig_sawCksum (v : Word) (s : State) : (setConfig s v).sawCksum = s.sawCksum := rfl
@[simp] theorem setConfig_sawNonmatch (v : Word) (s : State) : (setConfig s v).sawNonmatch = s.sawNonmatch := rfl
@[simp] theorem setConfig_rxAny (v : Word) (s : State) : (setConfig s v).rxAny = s.rxAny := rfl
@[simp] theorem setConfig_rxFunc (v : Word) (s : State) : (setConfig s v).rxFunc = s.rxFunc := rfl
@[simp] theorem setConfig_overrun (v : Word) (s : State) : (setConfig s v).overrun = s.overrun := rfl
@[simp] theorem setConfig_result0 (v : Word) (s : State) : (setConfig s v).result0 = s.result0 := rfl
@[simp] theorem setConfig_result1 (v : Word) (s : State) : (setConfig s v).result1 = s.result1 := rfl
@[simp] theorem setConfig_txf (v : Word) (s : State) : (setConfig s v).txf = s.txf := rfl
@[simp] theorem setConfig_rxf (v : Word) (s : State) : (setConfig s v).rxf = s.rxf := rfl
@[simp] theorem setConfig_ses (v : Word) (s : State) : (setConfig s v).ses = s.ses := rfl
@[simp] theorem setConfig_op (v : Word) (s : State) : (setConfig s v).op = s.op := rfl
@[simp] theorem setConfig_expf (v : Word) (s : State) : (setConfig s v).expf = s.expf := rfl
@[simp] theorem setConfig_acc (v : Word) (s : State) : (setConfig s v).acc = s.acc := rfl
@[simp] theorem setConfig_hostMap (v : Word) (s : State) : (setConfig s v).hostMap = s.hostMap := rfl
@[simp] theorem setConfig_greadHostFunc (v : Word) (s : State) : (setConfig s v).greadHostFunc = s.greadHostFunc := rfl
@[simp] theorem setConfig_env (v : Word) (s : State) : (setConfig s v).env = s.env := rfl
@[simp] theorem setConfig_again (v : Word) (s : State) : (setConfig s v).again = s.again := rfl
@[simp] theorem setConfig_obs (v : Word) (s : State) : (setConfig s v).obs = s.obs := rfl
@[simp] theorem setConfig_rdata (v : Word) (s : State) : (setConfig s v).rdata = s.rdata := rfl

/-! ### setPayload -/

@[simp] theorem setPayload_driveAddr (v : Word) (s : State) : (setPayload s v).driveAddr = s.driveAddr := rfl
@[simp] theorem setPayload_debug (v : Word) (s : State) : (setPayload s v).debug = s.debug := rfl
@[simp] theorem setPayload_flushOnSend (v : Word) (s : State) : (setPayload s v).flushOnSend = s.flushOnSend := rfl
@[simp] theorem setPayload_maxAttempts (v : Word) (s : State) : (setPayload s v).maxAttempts = s.maxAttempts := rfl
@[simp] theorem setPayload_p0 (v : Word) (s : State) : (setPayload s v).p0 = v.extractLsb' 0 7 := rfl
@[simp] theorem setPayload_p1 (v : Word) (s : State) : (setPayload s v).p1 = v.extractLsb' 8 7 := rfl
@[simp] theorem setPayload_p2 (v : Word) (s : State) : (setPayload s v).p2 = v.extractLsb' 16 7 := rfl
@[simp] theorem setPayload_p3 (v : Word) (s : State) : (setPayload s v).p3 = v.extractLsb' 24 7 := rfl
@[simp] theorem setPayload_busy (v : Word) (s : State) : (setPayload s v).busy = s.busy := rfl
@[simp] theorem setPayload_done (v : Word) (s : State) : (setPayload s v).done = s.done := rfl
@[simp] theorem setPayload_err (v : Word) (s : State) : (setPayload s v).err = s.err := rfl
@[simp] theorem setPayload_attempts (v : Word) (s : State) : (setPayload s v).attempts = s.attempts := rfl
@[simp] theorem setPayload_resTag (v : Word) (s : State) : (setPayload s v).resTag = s.resTag := rfl
@[simp] theorem setPayload_sawTimeout (v : Word) (s : State) : (setPayload s v).sawTimeout = s.sawTimeout := rfl
@[simp] theorem setPayload_sawCksum (v : Word) (s : State) : (setPayload s v).sawCksum = s.sawCksum := rfl
@[simp] theorem setPayload_sawNonmatch (v : Word) (s : State) : (setPayload s v).sawNonmatch = s.sawNonmatch := rfl
@[simp] theorem setPayload_rxAny (v : Word) (s : State) : (setPayload s v).rxAny = s.rxAny := rfl
@[simp] theorem setPayload_rxFunc (v : Word) (s : State) : (setPayload s v).rxFunc = s.rxFunc := rfl
@[simp] theorem setPayload_overrun (v : Word) (s : State) : (setPayload s v).overrun = s.overrun := rfl
@[simp] theorem setPayload_result0 (v : Word) (s : State) : (setPayload s v).result0 = s.result0 := rfl
@[simp] theorem setPayload_result1 (v : Word) (s : State) : (setPayload s v).result1 = s.result1 := rfl
@[simp] theorem setPayload_txf (v : Word) (s : State) : (setPayload s v).txf = s.txf := rfl
@[simp] theorem setPayload_rxf (v : Word) (s : State) : (setPayload s v).rxf = s.rxf := rfl
@[simp] theorem setPayload_ses (v : Word) (s : State) : (setPayload s v).ses = s.ses := rfl
@[simp] theorem setPayload_op (v : Word) (s : State) : (setPayload s v).op = s.op := rfl
@[simp] theorem setPayload_expf (v : Word) (s : State) : (setPayload s v).expf = s.expf := rfl
@[simp] theorem setPayload_acc (v : Word) (s : State) : (setPayload s v).acc = s.acc := rfl
@[simp] theorem setPayload_hostMap (v : Word) (s : State) : (setPayload s v).hostMap = s.hostMap := rfl
@[simp] theorem setPayload_greadHostFunc (v : Word) (s : State) : (setPayload s v).greadHostFunc = s.greadHostFunc := rfl
@[simp] theorem setPayload_env (v : Word) (s : State) : (setPayload s v).env = s.env := rfl
@[simp] theorem setPayload_again (v : Word) (s : State) : (setPayload s v).again = s.again := rfl
@[simp] theorem setPayload_obs (v : Word) (s : State) : (setPayload s v).obs = s.obs := rfl
@[simp] theorem setPayload_rdata (v : Word) (s : State) : (setPayload s v).rdata = s.rdata := rfl

/-! ### dropWrite -/

@[simp] theorem dropWrite_driveAddr (s : State) : (dropWrite s).driveAddr = s.driveAddr := rfl
@[simp] theorem dropWrite_debug (s : State) : (dropWrite s).debug = s.debug := rfl
@[simp] theorem dropWrite_flushOnSend (s : State) : (dropWrite s).flushOnSend = s.flushOnSend := rfl
@[simp] theorem dropWrite_maxAttempts (s : State) : (dropWrite s).maxAttempts = s.maxAttempts := rfl
@[simp] theorem dropWrite_p0 (s : State) : (dropWrite s).p0 = s.p0 := rfl
@[simp] theorem dropWrite_p1 (s : State) : (dropWrite s).p1 = s.p1 := rfl
@[simp] theorem dropWrite_p2 (s : State) : (dropWrite s).p2 = s.p2 := rfl
@[simp] theorem dropWrite_p3 (s : State) : (dropWrite s).p3 = s.p3 := rfl
@[simp] theorem dropWrite_busy (s : State) : (dropWrite s).busy = s.busy := rfl
@[simp] theorem dropWrite_done (s : State) : (dropWrite s).done = s.done := rfl
@[simp] theorem dropWrite_err (s : State) : (dropWrite s).err = s.err := rfl
@[simp] theorem dropWrite_attempts (s : State) : (dropWrite s).attempts = s.attempts := rfl
@[simp] theorem dropWrite_resTag (s : State) : (dropWrite s).resTag = s.resTag := rfl
@[simp] theorem dropWrite_sawTimeout (s : State) : (dropWrite s).sawTimeout = s.sawTimeout := rfl
@[simp] theorem dropWrite_sawCksum (s : State) : (dropWrite s).sawCksum = s.sawCksum := rfl
@[simp] theorem dropWrite_sawNonmatch (s : State) : (dropWrite s).sawNonmatch = s.sawNonmatch := rfl
@[simp] theorem dropWrite_rxAny (s : State) : (dropWrite s).rxAny = s.rxAny := rfl
@[simp] theorem dropWrite_rxFunc (s : State) : (dropWrite s).rxFunc = s.rxFunc := rfl
@[simp] theorem dropWrite_overrun (s : State) : (dropWrite s).overrun = true := rfl
@[simp] theorem dropWrite_result0 (s : State) : (dropWrite s).result0 = s.result0 := rfl
@[simp] theorem dropWrite_result1 (s : State) : (dropWrite s).result1 = s.result1 := rfl
@[simp] theorem dropWrite_txf (s : State) : (dropWrite s).txf = s.txf := rfl
@[simp] theorem dropWrite_rxf (s : State) : (dropWrite s).rxf = s.rxf := rfl
@[simp] theorem dropWrite_ses (s : State) : (dropWrite s).ses = s.ses := rfl
@[simp] theorem dropWrite_op (s : State) : (dropWrite s).op = s.op := rfl
@[simp] theorem dropWrite_expf (s : State) : (dropWrite s).expf = s.expf := rfl
@[simp] theorem dropWrite_acc (s : State) : (dropWrite s).acc = s.acc := rfl
@[simp] theorem dropWrite_hostMap (s : State) : (dropWrite s).hostMap = s.hostMap := rfl
@[simp] theorem dropWrite_greadHostFunc (s : State) : (dropWrite s).greadHostFunc = s.greadHostFunc := rfl
@[simp] theorem dropWrite_env (s : State) : (dropWrite s).env = s.env := rfl
@[simp] theorem dropWrite_again (s : State) : (dropWrite s).again = s.again := rfl
@[simp] theorem dropWrite_obs (s : State) : (dropWrite s).obs = s.obs := rfl
@[simp] theorem dropWrite_rdata (s : State) : (dropWrite s).rdata = s.rdata := rfl

/-! ### latchOp -/

@[simp] theorem latchOp_driveAddr (o : Op) (s : State) : (latchOp o s).driveAddr = s.driveAddr := rfl
@[simp] theorem latchOp_debug (o : Op) (s : State) : (latchOp o s).debug = s.debug := rfl
@[simp] theorem latchOp_flushOnSend (o : Op) (s : State) : (latchOp o s).flushOnSend = s.flushOnSend := rfl
@[simp] theorem latchOp_maxAttempts (o : Op) (s : State) : (latchOp o s).maxAttempts = s.maxAttempts := rfl
@[simp] theorem latchOp_p0 (o : Op) (s : State) : (latchOp o s).p0 = s.p0 := rfl
@[simp] theorem latchOp_p1 (o : Op) (s : State) : (latchOp o s).p1 = s.p1 := rfl
@[simp] theorem latchOp_p2 (o : Op) (s : State) : (latchOp o s).p2 = s.p2 := rfl
@[simp] theorem latchOp_p3 (o : Op) (s : State) : (latchOp o s).p3 = s.p3 := rfl
@[simp] theorem latchOp_busy (o : Op) (s : State) : (latchOp o s).busy = s.busy := rfl
@[simp] theorem latchOp_done (o : Op) (s : State) : (latchOp o s).done = s.done := rfl
@[simp] theorem latchOp_err (o : Op) (s : State) : (latchOp o s).err = s.err := rfl
@[simp] theorem latchOp_attempts (o : Op) (s : State) : (latchOp o s).attempts = s.attempts := rfl
@[simp] theorem latchOp_resTag (o : Op) (s : State) : (latchOp o s).resTag = s.resTag := rfl
@[simp] theorem latchOp_sawTimeout (o : Op) (s : State) : (latchOp o s).sawTimeout = s.sawTimeout := rfl
@[simp] theorem latchOp_sawCksum (o : Op) (s : State) : (latchOp o s).sawCksum = s.sawCksum := rfl
@[simp] theorem latchOp_sawNonmatch (o : Op) (s : State) : (latchOp o s).sawNonmatch = s.sawNonmatch := rfl
@[simp] theorem latchOp_rxAny (o : Op) (s : State) : (latchOp o s).rxAny = s.rxAny := rfl
@[simp] theorem latchOp_rxFunc (o : Op) (s : State) : (latchOp o s).rxFunc = s.rxFunc := rfl
@[simp] theorem latchOp_overrun (o : Op) (s : State) : (latchOp o s).overrun = s.overrun := rfl
@[simp] theorem latchOp_result0 (o : Op) (s : State) : (latchOp o s).result0 = s.result0 := rfl
@[simp] theorem latchOp_result1 (o : Op) (s : State) : (latchOp o s).result1 = s.result1 := rfl
@[simp] theorem latchOp_txf (o : Op) (s : State) : (latchOp o s).txf = s.txf := rfl
@[simp] theorem latchOp_rxf (o : Op) (s : State) : (latchOp o s).rxf = s.rxf := rfl
@[simp] theorem latchOp_ses (o : Op) (s : State) : (latchOp o s).ses = s.ses := rfl
@[simp] theorem latchOp_op (o : Op) (s : State) : (latchOp o s).op = o := rfl
@[simp] theorem latchOp_expf (o : Op) (s : State) : (latchOp o s).expf = s.expf := rfl
@[simp] theorem latchOp_acc (o : Op) (s : State) : (latchOp o s).acc = s.acc := rfl
@[simp] theorem latchOp_hostMap (o : Op) (s : State) : (latchOp o s).hostMap = s.hostMap := rfl
@[simp] theorem latchOp_greadHostFunc (o : Op) (s : State) : (latchOp o s).greadHostFunc = s.greadHostFunc := rfl
@[simp] theorem latchOp_env (o : Op) (s : State) : (latchOp o s).env = s.env := rfl
@[simp] theorem latchOp_again (o : Op) (s : State) : (latchOp o s).again = s.again := rfl
@[simp] theorem latchOp_obs (o : Op) (s : State) : (latchOp o s).obs = s.obs := rfl
@[simp] theorem latchOp_rdata (o : Op) (s : State) : (latchOp o s).rdata = s.rdata := rfl

/-! ### expect -/

@[simp] theorem expect_driveAddr (d : Ident) (s : State) : (expect d s).driveAddr = s.driveAddr := rfl
@[simp] theorem expect_debug (d : Ident) (s : State) : (expect d s).debug = s.debug := rfl
@[simp] theorem expect_flushOnSend (d : Ident) (s : State) : (expect d s).flushOnSend = s.flushOnSend := rfl
@[simp] theorem expect_maxAttempts (d : Ident) (s : State) : (expect d s).maxAttempts = s.maxAttempts := rfl
@[simp] theorem expect_p0 (d : Ident) (s : State) : (expect d s).p0 = s.p0 := rfl
@[simp] theorem expect_p1 (d : Ident) (s : State) : (expect d s).p1 = s.p1 := rfl
@[simp] theorem expect_p2 (d : Ident) (s : State) : (expect d s).p2 = s.p2 := rfl
@[simp] theorem expect_p3 (d : Ident) (s : State) : (expect d s).p3 = s.p3 := rfl
@[simp] theorem expect_busy (d : Ident) (s : State) : (expect d s).busy = s.busy := rfl
@[simp] theorem expect_done (d : Ident) (s : State) : (expect d s).done = s.done := rfl
@[simp] theorem expect_err (d : Ident) (s : State) : (expect d s).err = s.err := rfl
@[simp] theorem expect_attempts (d : Ident) (s : State) : (expect d s).attempts = s.attempts := rfl
@[simp] theorem expect_resTag (d : Ident) (s : State) : (expect d s).resTag = s.resTag := rfl
@[simp] theorem expect_sawTimeout (d : Ident) (s : State) : (expect d s).sawTimeout = s.sawTimeout := rfl
@[simp] theorem expect_sawCksum (d : Ident) (s : State) : (expect d s).sawCksum = s.sawCksum := rfl
@[simp] theorem expect_sawNonmatch (d : Ident) (s : State) : (expect d s).sawNonmatch = s.sawNonmatch := rfl
@[simp] theorem expect_rxAny (d : Ident) (s : State) : (expect d s).rxAny = s.rxAny := rfl
@[simp] theorem expect_rxFunc (d : Ident) (s : State) : (expect d s).rxFunc = s.rxFunc := rfl
@[simp] theorem expect_overrun (d : Ident) (s : State) : (expect d s).overrun = s.overrun := rfl
@[simp] theorem expect_result0 (d : Ident) (s : State) : (expect d s).result0 = s.result0 := rfl
@[simp] theorem expect_result1 (d : Ident) (s : State) : (expect d s).result1 = s.result1 := rfl
@[simp] theorem expect_txf (d : Ident) (s : State) : (expect d s).txf = s.txf := rfl
@[simp] theorem expect_rxf (d : Ident) (s : State) : (expect d s).rxf = s.rxf := rfl
@[simp] theorem expect_ses (d : Ident) (s : State) : (expect d s).ses = s.ses := rfl
@[simp] theorem expect_op (d : Ident) (s : State) : (expect d s).op = s.op := rfl
@[simp] theorem expect_expf (d : Ident) (s : State) : (expect d s).expf = d := rfl
@[simp] theorem expect_acc (d : Ident) (s : State) : (expect d s).acc = s.acc := rfl
@[simp] theorem expect_hostMap (d : Ident) (s : State) : (expect d s).hostMap = s.hostMap := rfl
@[simp] theorem expect_greadHostFunc (d : Ident) (s : State) : (expect d s).greadHostFunc = s.greadHostFunc := rfl
@[simp] theorem expect_env (d : Ident) (s : State) : (expect d s).env = s.env := rfl
@[simp] theorem expect_again (d : Ident) (s : State) : (expect d s).again = s.again := rfl
@[simp] theorem expect_obs (d : Ident) (s : State) : (expect d s).obs = s.obs := rfl
@[simp] theorem expect_rdata (d : Ident) (s : State) : (expect d s).rdata = s.rdata := rfl

/-! ### storeFrame -/

@[simp] theorem storeFrame_driveAddr (f : List Byte) (s : State) : (storeFrame f s).driveAddr = s.driveAddr := rfl
@[simp] theorem storeFrame_debug (f : List Byte) (s : State) : (storeFrame f s).debug = s.debug := rfl
@[simp] theorem storeFrame_flushOnSend (f : List Byte) (s : State) : (storeFrame f s).flushOnSend = s.flushOnSend := rfl
@[simp] theorem storeFrame_maxAttempts (f : List Byte) (s : State) : (storeFrame f s).maxAttempts = s.maxAttempts := rfl
@[simp] theorem storeFrame_p0 (f : List Byte) (s : State) : (storeFrame f s).p0 = s.p0 := rfl
@[simp] theorem storeFrame_p1 (f : List Byte) (s : State) : (storeFrame f s).p1 = s.p1 := rfl
@[simp] theorem storeFrame_p2 (f : List Byte) (s : State) : (storeFrame f s).p2 = s.p2 := rfl
@[simp] theorem storeFrame_p3 (f : List Byte) (s : State) : (storeFrame f s).p3 = s.p3 := rfl
@[simp] theorem storeFrame_busy (f : List Byte) (s : State) : (storeFrame f s).busy = s.busy := rfl
@[simp] theorem storeFrame_done (f : List Byte) (s : State) : (storeFrame f s).done = s.done := rfl
@[simp] theorem storeFrame_err (f : List Byte) (s : State) : (storeFrame f s).err = s.err := rfl
@[simp] theorem storeFrame_attempts (f : List Byte) (s : State) : (storeFrame f s).attempts = s.attempts := rfl
@[simp] theorem storeFrame_resTag (f : List Byte) (s : State) : (storeFrame f s).resTag = s.resTag := rfl
@[simp] theorem storeFrame_sawTimeout (f : List Byte) (s : State) : (storeFrame f s).sawTimeout = s.sawTimeout := rfl
@[simp] theorem storeFrame_sawCksum (f : List Byte) (s : State) : (storeFrame f s).sawCksum = s.sawCksum := rfl
@[simp] theorem storeFrame_sawNonmatch (f : List Byte) (s : State) : (storeFrame f s).sawNonmatch = s.sawNonmatch := rfl
@[simp] theorem storeFrame_rxAny (f : List Byte) (s : State) : (storeFrame f s).rxAny = s.rxAny := rfl
@[simp] theorem storeFrame_rxFunc (f : List Byte) (s : State) : (storeFrame f s).rxFunc = s.rxFunc := rfl
@[simp] theorem storeFrame_overrun (f : List Byte) (s : State) : (storeFrame f s).overrun = s.overrun := rfl
@[simp] theorem storeFrame_result0 (f : List Byte) (s : State) : (storeFrame f s).result0 = s.result0 := rfl
@[simp] theorem storeFrame_result1 (f : List Byte) (s : State) : (storeFrame f s).result1 = s.result1 := rfl
@[simp] theorem storeFrame_txf (f : List Byte) (s : State) : (storeFrame f s).txf = f := rfl
@[simp] theorem storeFrame_rxf (f : List Byte) (s : State) : (storeFrame f s).rxf = s.rxf := rfl
@[simp] theorem storeFrame_ses (f : List Byte) (s : State) : (storeFrame f s).ses = s.ses := rfl
@[simp] theorem storeFrame_op (f : List Byte) (s : State) : (storeFrame f s).op = s.op := rfl
@[simp] theorem storeFrame_expf (f : List Byte) (s : State) : (storeFrame f s).expf = s.expf := rfl
@[simp] theorem storeFrame_acc (f : List Byte) (s : State) : (storeFrame f s).acc = s.acc := rfl
@[simp] theorem storeFrame_hostMap (f : List Byte) (s : State) : (storeFrame f s).hostMap = s.hostMap := rfl
@[simp] theorem storeFrame_greadHostFunc (f : List Byte) (s : State) : (storeFrame f s).greadHostFunc = s.greadHostFunc := rfl
@[simp] theorem storeFrame_env (f : List Byte) (s : State) : (storeFrame f s).env = s.env := rfl
@[simp] theorem storeFrame_again (f : List Byte) (s : State) : (storeFrame f s).again = s.again := rfl
@[simp] theorem storeFrame_obs (f : List Byte) (s : State) : (storeFrame f s).obs = s.obs := rfl
@[simp] theorem storeFrame_rdata (f : List Byte) (s : State) : (storeFrame f s).rdata = s.rdata := rfl

/-! ### emit -/

@[simp] theorem emit_driveAddr (d : Dir) (bs : List Byte) (s : State) : (emit d bs s).driveAddr = s.driveAddr := rfl
@[simp] theorem emit_debug (d : Dir) (bs : List Byte) (s : State) : (emit d bs s).debug = s.debug := rfl
@[simp] theorem emit_flushOnSend (d : Dir) (bs : List Byte) (s : State) : (emit d bs s).flushOnSend = s.flushOnSend := rfl
@[simp] theorem emit_maxAttempts (d : Dir) (bs : List Byte) (s : State) : (emit d bs s).maxAttempts = s.maxAttempts := rfl
@[simp] theorem emit_p0 (d : Dir) (bs : List Byte) (s : State) : (emit d bs s).p0 = s.p0 := rfl
@[simp] theorem emit_p1 (d : Dir) (bs : List Byte) (s : State) : (emit d bs s).p1 = s.p1 := rfl
@[simp] theorem emit_p2 (d : Dir) (bs : List Byte) (s : State) : (emit d bs s).p2 = s.p2 := rfl
@[simp] theorem emit_p3 (d : Dir) (bs : List Byte) (s : State) : (emit d bs s).p3 = s.p3 := rfl
@[simp] theorem emit_busy (d : Dir) (bs : List Byte) (s : State) : (emit d bs s).busy = s.busy := rfl
@[simp] theorem emit_done (d : Dir) (bs : List Byte) (s : State) : (emit d bs s).done = s.done := rfl
@[simp] theorem emit_err (d : Dir) (bs : List Byte) (s : State) : (emit d bs s).err = s.err := rfl
@[simp] theorem emit_attempts (d : Dir) (bs : List Byte) (s : State) : (emit d bs s).attempts = s.attempts := rfl
@[simp] theorem emit_resTag (d : Dir) (bs : List Byte) (s : State) : (emit d bs s).resTag = s.resTag := rfl
@[simp] theorem emit_sawTimeout (d : Dir) (bs : List Byte) (s : State) : (emit d bs s).sawTimeout = s.sawTimeout := rfl
@[simp] theorem emit_sawCksum (d : Dir) (bs : List Byte) (s : State) : (emit d bs s).sawCksum = s.sawCksum := rfl
@[simp] theorem emit_sawNonmatch (d : Dir) (bs : List Byte) (s : State) : (emit d bs s).sawNonmatch = s.sawNonmatch := rfl
@[simp] theorem emit_rxAny (d : Dir) (bs : List Byte) (s : State) : (emit d bs s).rxAny = s.rxAny := rfl
@[simp] theorem emit_rxFunc (d : Dir) (bs : List Byte) (s : State) : (emit d bs s).rxFunc = s.rxFunc := rfl
@[simp] theorem emit_overrun (d : Dir) (bs : List Byte) (s : State) : (emit d bs s).overrun = s.overrun := rfl
@[simp] theorem emit_result0 (d : Dir) (bs : List Byte) (s : State) : (emit d bs s).result0 = s.result0 := rfl
@[simp] theorem emit_result1 (d : Dir) (bs : List Byte) (s : State) : (emit d bs s).result1 = s.result1 := rfl
@[simp] theorem emit_txf (d : Dir) (bs : List Byte) (s : State) : (emit d bs s).txf = s.txf := rfl
@[simp] theorem emit_rxf (d : Dir) (bs : List Byte) (s : State) : (emit d bs s).rxf = s.rxf := rfl
@[simp] theorem emit_ses (d : Dir) (bs : List Byte) (s : State) : (emit d bs s).ses = s.ses := rfl
@[simp] theorem emit_op (d : Dir) (bs : List Byte) (s : State) : (emit d bs s).op = s.op := rfl
@[simp] theorem emit_expf (d : Dir) (bs : List Byte) (s : State) : (emit d bs s).expf = s.expf := rfl
@[simp] theorem emit_acc (d : Dir) (bs : List Byte) (s : State) : (emit d bs s).acc = s.acc := rfl
@[simp] theorem emit_hostMap (d : Dir) (bs : List Byte) (s : State) : (emit d bs s).hostMap = s.hostMap := rfl
@[simp] theorem emit_greadHostFunc (d : Dir) (bs : List Byte) (s : State) : (emit d bs s).greadHostFunc = s.greadHostFunc := rfl
@[simp] theorem emit_env (d : Dir) (bs : List Byte) (s : State) : (emit d bs s).env = s.env := rfl
@[simp] theorem emit_again (d : Dir) (bs : List Byte) (s : State) : (emit d bs s).again = s.again := rfl
@[simp] theorem emit_obs (d : Dir) (bs : List Byte) (s : State) : (emit d bs s).obs = (if s.debug then s.obs ++ [⟨d, bs⟩] else s.obs) := rfl
@[simp] theorem emit_rdata (d : Dir) (bs : List Byte) (s : State) : (emit d bs s).rdata = s.rdata := rfl

/-! ### beginAttempt -/

@[simp] theorem beginAttempt_driveAddr (s : State) : (beginAttempt s).driveAddr = s.driveAddr := rfl
@[simp] theorem beginAttempt_debug (s : State) : (beginAttempt s).debug = s.debug := rfl
@[simp] theorem beginAttempt_flushOnSend (s : State) : (beginAttempt s).flushOnSend = s.flushOnSend := rfl
@[simp] theorem beginAttempt_maxAttempts (s : State) : (beginAttempt s).maxAttempts = s.maxAttempts := rfl
@[simp] theorem beginAttempt_p0 (s : State) : (beginAttempt s).p0 = s.p0 := rfl
@[simp] theorem beginAttempt_p1 (s : State) : (beginAttempt s).p1 = s.p1 := rfl
@[simp] theorem beginAttempt_p2 (s : State) : (beginAttempt s).p2 = s.p2 := rfl
@[simp] theorem beginAttempt_p3 (s : State) : (beginAttempt s).p3 = s.p3 := rfl
@[simp] theorem beginAttempt_busy (s : State) : (beginAttempt s).busy = true := rfl
@[simp] theorem beginAttempt_done (s : State) : (beginAttempt s).done = s.done := rfl
@[simp] theorem beginAttempt_err (s : State) : (beginAttempt s).err = s.err := rfl
@[simp] theorem beginAttempt_attempts (s : State) : (beginAttempt s).attempts = s.attempts := rfl
@[simp] theorem beginAttempt_resTag (s : State) : (beginAttempt s).resTag = s.resTag := rfl
@[simp] theorem beginAttempt_sawTimeout (s : State) : (beginAttempt s).sawTimeout = s.sawTimeout := rfl
@[simp] theorem beginAttempt_sawCksum (s : State) : (beginAttempt s).sawCksum = s.sawCksum := rfl
@[simp] theorem beginAttempt_sawNonmatch (s : State) : (beginAttempt s).sawNonmatch = s.sawNonmatch := rfl
@[simp] theorem beginAttempt_rxAny (s : State) : (beginAttempt s).rxAny = s.rxAny := rfl
@[simp] theorem beginAttempt_rxFunc (s : State) : (beginAttempt s).rxFunc = s.rxFunc := rfl
@[simp] theorem beginAttempt_overrun (s : State) : (beginAttempt s).overrun = s.overrun := rfl
@[simp] theorem beginAttempt_result0 (s : State) : (beginAttempt s).result0 = s.result0 := rfl
@[simp] theorem beginAttempt_result1 (s : State) : (beginAttempt s).result1 = s.result1 := rfl
@[simp] theorem beginAttempt_txf (s : State) : (beginAttempt s).txf = s.txf := rfl
@[simp] theorem beginAttempt_rxf (s : State) : (beginAttempt s).rxf = s.rxf := rfl
@[simp] theorem beginAttempt_ses (s : State) : (beginAttempt s).ses = .reading := rfl
@[simp] theorem beginAttempt_op (s : State) : (beginAttempt s).op = s.op := rfl
@[simp] theorem beginAttempt_expf (s : State) : (beginAttempt s).expf = s.expf := rfl
@[simp] theorem beginAttempt_acc (s : State) : (beginAttempt s).acc = [] := rfl
@[simp] theorem beginAttempt_hostMap (s : State) : (beginAttempt s).hostMap = s.hostMap := rfl
@[simp] theorem beginAttempt_greadHostFunc (s : State) : (beginAttempt s).greadHostFunc = s.greadHostFunc := rfl
@[simp] theorem beginAttempt_env (s : State) : (beginAttempt s).env = s.env := rfl
@[simp] theorem beginAttempt_again (s : State) : (beginAttempt s).again = s.again := rfl
@[simp] theorem beginAttempt_obs (s : State) : (beginAttempt s).obs = s.obs := rfl
@[simp] theorem beginAttempt_rdata (s : State) : (beginAttempt s).rdata = s.rdata := rfl

/-! ### issueWrite -/

@[simp] theorem issueWrite_driveAddr (s : State) : (issueWrite s).driveAddr = s.driveAddr := rfl
@[simp] theorem issueWrite_debug (s : State) : (issueWrite s).debug = s.debug := rfl
@[simp] theorem issueWrite_flushOnSend (s : State) : (issueWrite s).flushOnSend = s.flushOnSend := rfl
@[simp] theorem issueWrite_maxAttempts (s : State) : (issueWrite s).maxAttempts = s.maxAttempts := rfl
@[simp] theorem issueWrite_p0 (s : State) : (issueWrite s).p0 = s.p0 := rfl
@[simp] theorem issueWrite_p1 (s : State) : (issueWrite s).p1 = s.p1 := rfl
@[simp] theorem issueWrite_p2 (s : State) : (issueWrite s).p2 = s.p2 := rfl
@[simp] theorem issueWrite_p3 (s : State) : (issueWrite s).p3 = s.p3 := rfl
@[simp] theorem issueWrite_busy (s : State) : (issueWrite s).busy = s.busy := rfl
@[simp] theorem issueWrite_done (s : State) : (issueWrite s).done = s.done := rfl
@[simp] theorem issueWrite_err (s : State) : (issueWrite s).err = s.err := rfl
@[simp] theorem issueWrite_attempts (s : State) : (issueWrite s).attempts = s.attempts := rfl
@[simp] theorem issueWrite_resTag (s : State) : (issueWrite s).resTag = s.resTag := rfl
@[simp] theorem issueWrite_sawTimeout (s : State) : (issueWrite s).sawTimeout = s.sawTimeout := rfl
@[simp] theorem issueWrite_sawCksum (s : State) : (issueWrite s).sawCksum = s.sawCksum := rfl
@[simp] theorem issueWrite_sawNonmatch (s : State) : (issueWrite s).sawNonmatch = s.sawNonmatch := rfl
@[simp] theorem issueWrite_rxAny (s : State) : (issueWrite s).rxAny = s.rxAny := rfl
@[simp] theorem issueWrite_rxFunc (s : State) : (issueWrite s).rxFunc = s.rxFunc := rfl
@[simp] theorem issueWrite_overrun (s : State) : (issueWrite s).overrun = s.overrun := rfl
@[simp] theorem issueWrite_result0 (s : State) : (issueWrite s).result0 = s.result0 := rfl
@[simp] theorem issueWrite_result1 (s : State) : (issueWrite s).result1 = s.result1 := rfl
@[simp] theorem issueWrite_txf (s : State) : (issueWrite s).txf = s.txf := rfl
@[simp] theorem issueWrite_rxf (s : State) : (issueWrite s).rxf = s.rxf := rfl
@[simp] theorem issueWrite_ses (s : State) : (issueWrite s).ses = .writing := rfl
@[simp] theorem issueWrite_op (s : State) : (issueWrite s).op = s.op := rfl
@[simp] theorem issueWrite_expf (s : State) : (issueWrite s).expf = s.expf := rfl
@[simp] theorem issueWrite_acc (s : State) : (issueWrite s).acc = s.acc := rfl
@[simp] theorem issueWrite_hostMap (s : State) : (issueWrite s).hostMap = s.hostMap := rfl
@[simp] theorem issueWrite_greadHostFunc (s : State) : (issueWrite s).greadHostFunc = s.greadHostFunc := rfl
@[simp] theorem issueWrite_env (s : State) : (issueWrite s).env = s.env := rfl
@[simp] theorem issueWrite_again (s : State) : (issueWrite s).again = s.again := rfl
@[simp] theorem issueWrite_obs (s : State) : (issueWrite s).obs = (if s.debug then s.obs ++ [⟨.tx, s.txf⟩] else s.obs) := rfl
@[simp] theorem issueWrite_rdata (s : State) : (issueWrite s).rdata = s.rdata := rfl

/-! ### noteFrame -/

@[simp] theorem noteFrame_driveAddr (f : List Byte) (s : State) : (noteFrame f s).driveAddr = s.driveAddr := rfl
@[simp] theorem noteFrame_debug (f : List Byte) (s : State) : (noteFrame f s).debug = s.debug := rfl
@[simp] theorem noteFrame_flushOnSend (f : List Byte) (s : State) : (noteFrame f s).flushOnSend = s.flushOnSend := rfl
@[simp] theorem noteFrame_maxAttempts (f : List Byte) (s : State) : (noteFrame f s).maxAttempts = s.maxAttempts := rfl
@[simp] theorem noteFrame_p0 (f : List Byte) (s : State) : (noteFrame f s).p0 = s.p0 := rfl
@[simp] theorem noteFrame_p1 (f : List Byte) (s : State) : (noteFrame f s).p1 = s.p1 := rfl
@[simp] theorem noteFrame_p2 (f : List Byte) (s : State) : (noteFrame f s).p2 = s.p2 := rfl
@[simp] theorem noteFrame_p3 (f : List Byte) (s : State) : (noteFrame f s).p3 = s.p3 := rfl
@[simp] theorem noteFrame_busy (f : List Byte) (s : State) : (noteFrame f s).busy = s.busy := rfl
@[simp] theorem noteFrame_done (f : List Byte) (s : State) : (noteFrame f s).done = s.done := rfl
@[simp] theorem noteFrame_err (f : List Byte) (s : State) : (noteFrame f s).err = s.err := rfl
@[simp] theorem noteFrame_attempts (f : List Byte) (s : State) : (noteFrame f s).attempts = s.attempts := rfl
@[simp] theorem noteFrame_resTag (f : List Byte) (s : State) : (noteFrame f s).resTag = s.resTag := rfl
@[simp] theorem noteFrame_sawTimeout (f : List Byte) (s : State) : (noteFrame f s).sawTimeout = s.sawTimeout := rfl
@[simp] theorem noteFrame_sawCksum (f : List Byte) (s : State) : (noteFrame f s).sawCksum = s.sawCksum := rfl
@[simp] theorem noteFrame_sawNonmatch (f : List Byte) (s : State) : (noteFrame f s).sawNonmatch = s.sawNonmatch := rfl
@[simp] theorem noteFrame_rxAny (f : List Byte) (s : State) : (noteFrame f s).rxAny = true := rfl
@[simp] theorem noteFrame_rxFunc (f : List Byte) (s : State) : (noteFrame f s).rxFunc = identOf (f.getD 1 0) := rfl
@[simp] theorem noteFrame_overrun (f : List Byte) (s : State) : (noteFrame f s).overrun = s.overrun := rfl
@[simp] theorem noteFrame_result0 (f : List Byte) (s : State) : (noteFrame f s).result0 = s.result0 := rfl
@[simp] theorem noteFrame_result1 (f : List Byte) (s : State) : (noteFrame f s).result1 = s.result1 := rfl
@[simp] theorem noteFrame_txf (f : List Byte) (s : State) : (noteFrame f s).txf = s.txf := rfl
@[simp] theorem noteFrame_rxf (f : List Byte) (s : State) : (noteFrame f s).rxf = f := rfl
@[simp] theorem noteFrame_ses (f : List Byte) (s : State) : (noteFrame f s).ses = s.ses := rfl
@[simp] theorem noteFrame_op (f : List Byte) (s : State) : (noteFrame f s).op = s.op := rfl
@[simp] theorem noteFrame_expf (f : List Byte) (s : State) : (noteFrame f s).expf = s.expf := rfl
@[simp] theorem noteFrame_acc (f : List Byte) (s : State) : (noteFrame f s).acc = s.acc := rfl
@[simp] theorem noteFrame_hostMap (f : List Byte) (s : State) : (noteFrame f s).hostMap = s.hostMap := rfl
@[simp] theorem noteFrame_greadHostFunc (f : List Byte) (s : State) : (noteFrame f s).greadHostFunc = s.greadHostFunc := rfl
@[simp] theorem noteFrame_env (f : List Byte) (s : State) : (noteFrame f s).env = s.env := rfl
@[simp] theorem noteFrame_again (f : List Byte) (s : State) : (noteFrame f s).again = s.again := rfl
@[simp] theorem noteFrame_obs (f : List Byte) (s : State) : (noteFrame f s).obs = (if s.debug then s.obs ++ [⟨.rx, f⟩] else s.obs) := rfl
@[simp] theorem noteFrame_rdata (f : List Byte) (s : State) : (noteFrame f s).rdata = s.rdata := rfl

/-! ### hostRead -/

@[simp] theorem hostRead_driveAddr (idx : Slot) (s : State) : (hostRead idx s).driveAddr = s.driveAddr := rfl
@[simp] theorem hostRead_debug (idx : Slot) (s : State) : (hostRead idx s).debug = s.debug := rfl
@[simp] theorem hostRead_flushOnSend (idx : Slot) (s : State) : (hostRead idx s).flushOnSend = s.flushOnSend := rfl
@[simp] theorem hostRead_maxAttempts (idx : Slot) (s : State) : (hostRead idx s).maxAttempts = s.maxAttempts := rfl
@[simp] theorem hostRead_p0 (idx : Slot) (s : State) : (hostRead idx s).p0 = s.p0 := rfl
@[simp] theorem hostRead_p1 (idx : Slot) (s : State) : (hostRead idx s).p1 = s.p1 := rfl
@[simp] theorem hostRead_p2 (idx : Slot) (s : State) : (hostRead idx s).p2 = s.p2 := rfl
@[simp] theorem hostRead_p3 (idx : Slot) (s : State) : (hostRead idx s).p3 = s.p3 := rfl
@[simp] theorem hostRead_busy (idx : Slot) (s : State) : (hostRead idx s).busy = s.busy := rfl
@[simp] theorem hostRead_done (idx : Slot) (s : State) : (hostRead idx s).done = s.done := rfl
@[simp] theorem hostRead_err (idx : Slot) (s : State) : (hostRead idx s).err = s.err := rfl
@[simp] theorem hostRead_attempts (idx : Slot) (s : State) : (hostRead idx s).attempts = s.attempts := rfl
@[simp] theorem hostRead_resTag (idx : Slot) (s : State) : (hostRead idx s).resTag = s.resTag := rfl
@[simp] theorem hostRead_sawTimeout (idx : Slot) (s : State) : (hostRead idx s).sawTimeout = s.sawTimeout := rfl
@[simp] theorem hostRead_sawCksum (idx : Slot) (s : State) : (hostRead idx s).sawCksum = s.sawCksum := rfl
@[simp] theorem hostRead_sawNonmatch (idx : Slot) (s : State) : (hostRead idx s).sawNonmatch = s.sawNonmatch := rfl
@[simp] theorem hostRead_rxAny (idx : Slot) (s : State) : (hostRead idx s).rxAny = s.rxAny := rfl
@[simp] theorem hostRead_rxFunc (idx : Slot) (s : State) : (hostRead idx s).rxFunc = s.rxFunc := rfl
@[simp] theorem hostRead_overrun (idx : Slot) (s : State) : (hostRead idx s).overrun = s.overrun := rfl
@[simp] theorem hostRead_result0 (idx : Slot) (s : State) : (hostRead idx s).result0 = s.result0 := rfl
@[simp] theorem hostRead_result1 (idx : Slot) (s : State) : (hostRead idx s).result1 = s.result1 := rfl
@[simp] theorem hostRead_txf (idx : Slot) (s : State) : (hostRead idx s).txf = s.txf := rfl
@[simp] theorem hostRead_rxf (idx : Slot) (s : State) : (hostRead idx s).rxf = s.rxf := rfl
@[simp] theorem hostRead_ses (idx : Slot) (s : State) : (hostRead idx s).ses = s.ses := rfl
@[simp] theorem hostRead_op (idx : Slot) (s : State) : (hostRead idx s).op = s.op := rfl
@[simp] theorem hostRead_expf (idx : Slot) (s : State) : (hostRead idx s).expf = s.expf := rfl
@[simp] theorem hostRead_acc (idx : Slot) (s : State) : (hostRead idx s).acc = s.acc := rfl
@[simp] theorem hostRead_hostMap (idx : Slot) (s : State) : (hostRead idx s).hostMap = s.hostMap := rfl
@[simp] theorem hostRead_greadHostFunc (idx : Slot) (s : State) : (hostRead idx s).greadHostFunc = s.greadHostFunc := rfl
@[simp] theorem hostRead_env (idx : Slot) (s : State) : (hostRead idx s).env = s.env := rfl
@[simp] theorem hostRead_again (idx : Slot) (s : State) : (hostRead idx s).again = s.again := rfl
@[simp] theorem hostRead_obs (idx : Slot) (s : State) : (hostRead idx s).obs = s.obs := rfl
@[simp] theorem hostRead_rdata (idx : Slot) (s : State) : (hostRead idx s).rdata = readSlot s idx := rfl

/-! ### writeStatus -/

@[simp] theorem writeStatus_driveAddr (v : Word) (s : State) : (writeStatus v s).driveAddr = s.driveAddr := rfl
@[simp] theorem writeStatus_debug (v : Word) (s : State) : (writeStatus v s).debug = s.debug := rfl
@[simp] theorem writeStatus_flushOnSend (v : Word) (s : State) : (writeStatus v s).flushOnSend = s.flushOnSend := rfl
@[simp] theorem writeStatus_maxAttempts (v : Word) (s : State) : (writeStatus v s).maxAttempts = s.maxAttempts := rfl
@[simp] theorem writeStatus_p0 (v : Word) (s : State) : (writeStatus v s).p0 = s.p0 := rfl
@[simp] theorem writeStatus_p1 (v : Word) (s : State) : (writeStatus v s).p1 = s.p1 := rfl
@[simp] theorem writeStatus_p2 (v : Word) (s : State) : (writeStatus v s).p2 = s.p2 := rfl
@[simp] theorem writeStatus_p3 (v : Word) (s : State) : (writeStatus v s).p3 = s.p3 := rfl
@[simp] theorem writeStatus_busy (v : Word) (s : State) : (writeStatus v s).busy = s.busy := rfl
@[simp] theorem writeStatus_done (v : Word) (s : State) : (writeStatus v s).done = s.done := rfl
@[simp] theorem writeStatus_err (v : Word) (s : State) : (writeStatus v s).err = s.err := rfl
@[simp] theorem writeStatus_attempts (v : Word) (s : State) : (writeStatus v s).attempts = s.attempts := rfl
@[simp] theorem writeStatus_resTag (v : Word) (s : State) : (writeStatus v s).resTag = s.resTag := rfl
@[simp] theorem writeStatus_sawTimeout (v : Word) (s : State) : (writeStatus v s).sawTimeout = s.sawTimeout := rfl
@[simp] theorem writeStatus_sawCksum (v : Word) (s : State) : (writeStatus v s).sawCksum = s.sawCksum := rfl
@[simp] theorem writeStatus_sawNonmatch (v : Word) (s : State) : (writeStatus v s).sawNonmatch = s.sawNonmatch := rfl
@[simp] theorem writeStatus_rxAny (v : Word) (s : State) : (writeStatus v s).rxAny = s.rxAny := rfl
@[simp] theorem writeStatus_rxFunc (v : Word) (s : State) : (writeStatus v s).rxFunc = s.rxFunc := rfl
@[simp] theorem writeStatus_overrun (v : Word) (s : State) : (writeStatus v s).overrun = (s.overrun && !v.getLsbD 30) := rfl
@[simp] theorem writeStatus_result0 (v : Word) (s : State) : (writeStatus v s).result0 = s.result0 := rfl
@[simp] theorem writeStatus_result1 (v : Word) (s : State) : (writeStatus v s).result1 = s.result1 := rfl
@[simp] theorem writeStatus_txf (v : Word) (s : State) : (writeStatus v s).txf = s.txf := rfl
@[simp] theorem writeStatus_rxf (v : Word) (s : State) : (writeStatus v s).rxf = s.rxf := rfl
@[simp] theorem writeStatus_ses (v : Word) (s : State) : (writeStatus v s).ses = s.ses := rfl
@[simp] theorem writeStatus_op (v : Word) (s : State) : (writeStatus v s).op = s.op := rfl
@[simp] theorem writeStatus_expf (v : Word) (s : State) : (writeStatus v s).expf = s.expf := rfl
@[simp] theorem writeStatus_acc (v : Word) (s : State) : (writeStatus v s).acc = s.acc := rfl
@[simp] theorem writeStatus_hostMap (v : Word) (s : State) : (writeStatus v s).hostMap = s.hostMap := rfl
@[simp] theorem writeStatus_greadHostFunc (v : Word) (s : State) : (writeStatus v s).greadHostFunc = s.greadHostFunc := rfl
@[simp] theorem writeStatus_env (v : Word) (s : State) : (writeStatus v s).env = s.env := rfl
@[simp] theorem writeStatus_again (v : Word) (s : State) : (writeStatus v s).again = s.again := rfl
@[simp] theorem writeStatus_obs (v : Word) (s : State) : (writeStatus v s).obs = s.obs := rfl
@[simp] theorem writeStatus_rdata (v : Word) (s : State) : (writeStatus v s).rdata = s.rdata := rfl

/-! ### send -/

@[simp] theorem send_driveAddr (s : State) : (send s).driveAddr = s.driveAddr := by
  unfold send; split <;> simp_all
@[simp] theorem send_debug (s : State) : (send s).debug = s.debug := by
  unfold send; split <;> simp_all
@[simp] theorem send_flushOnSend (s : State) : (send s).flushOnSend = s.flushOnSend := by
  unfold send; split <;> simp_all
@[simp] theorem send_maxAttempts (s : State) : (send s).maxAttempts = s.maxAttempts := by
  unfold send; split <;> simp_all
@[simp] theorem send_p0 (s : State) : (send s).p0 = s.p0 := by
  unfold send; split <;> simp_all
@[simp] theorem send_p1 (s : State) : (send s).p1 = s.p1 := by
  unfold send; split <;> simp_all
@[simp] theorem send_p2 (s : State) : (send s).p2 = s.p2 := by
  unfold send; split <;> simp_all
@[simp] theorem send_p3 (s : State) : (send s).p3 = s.p3 := by
  unfold send; split <;> simp_all
@[simp] theorem send_busy (s : State) : (send s).busy = true := by
  unfold send; split <;> simp_all
@[simp] theorem send_done (s : State) : (send s).done = s.done := by
  unfold send; split <;> simp_all
@[simp] theorem send_err (s : State) : (send s).err = s.err := by
  unfold send; split <;> simp_all
@[simp] theorem send_attempts (s : State) : (send s).attempts = s.attempts := by
  unfold send; split <;> simp_all
@[simp] theorem send_resTag (s : State) : (send s).resTag = s.resTag := by
  unfold send; split <;> simp_all
@[simp] theorem send_sawTimeout (s : State) : (send s).sawTimeout = s.sawTimeout := by
  unfold send; split <;> simp_all
@[simp] theorem send_sawCksum (s : State) : (send s).sawCksum = s.sawCksum := by
  unfold send; split <;> simp_all
@[simp] theorem send_sawNonmatch (s : State) : (send s).sawNonmatch = s.sawNonmatch := by
  unfold send; split <;> simp_all
@[simp] theorem send_rxAny (s : State) : (send s).rxAny = s.rxAny := by
  unfold send; split <;> simp_all
@[simp] theorem send_rxFunc (s : State) : (send s).rxFunc = s.rxFunc := by
  unfold send; split <;> simp_all
@[simp] theorem send_overrun (s : State) : (send s).overrun = s.overrun := by
  unfold send; split <;> simp_all
@[simp] theorem send_result0 (s : State) : (send s).result0 = s.result0 := by
  unfold send; split <;> simp_all
@[simp] theorem send_result1 (s : State) : (send s).result1 = s.result1 := by
  unfold send; split <;> simp_all
@[simp] theorem send_txf (s : State) : (send s).txf = s.txf := by
  unfold send; split <;> simp_all
@[simp] theorem send_rxf (s : State) : (send s).rxf = s.rxf := by
  unfold send; split <;> simp_all
@[simp] theorem send_ses (s : State) : (send s).ses = (if s.flushOnSend then .flushing else .writing) := by
  unfold send; split <;> simp_all
@[simp] theorem send_op (s : State) : (send s).op = s.op := by
  unfold send; split <;> simp_all
@[simp] theorem send_expf (s : State) : (send s).expf = s.expf := by
  unfold send; split <;> simp_all
@[simp] theorem send_acc (s : State) : (send s).acc = s.acc := by
  unfold send; split <;> simp_all
@[simp] theorem send_hostMap (s : State) : (send s).hostMap = s.hostMap := by
  unfold send; split <;> simp_all
@[simp] theorem send_greadHostFunc (s : State) : (send s).greadHostFunc = s.greadHostFunc := by
  unfold send; split <;> simp_all
@[simp] theorem send_env (s : State) : (send s).env = s.env := by
  unfold send; split <;> simp_all
@[simp] theorem send_again (s : State) : (send s).again = s.again := by
  unfold send; split <;> simp_all
@[simp] theorem send_obs (s : State) : (send s).obs = (if s.flushOnSend then s.obs else if s.debug then s.obs ++ [⟨.tx, s.txf⟩] else s.obs) := by
  unfold send; split <;> simp_all
@[simp] theorem send_rdata (s : State) : (send s).rdata = s.rdata := by
  unfold send; split <;> simp_all

/-! ### finish_none -/

@[simp] theorem finish_none_driveAddr (e : ErrCode) (s : State) : (finish e none s).driveAddr = s.driveAddr := by
  cases e <;> rfl
@[simp] theorem finish_none_debug (e : ErrCode) (s : State) : (finish e none s).debug = s.debug := by
  cases e <;> rfl
@[simp] theorem finish_none_flushOnSend (e : ErrCode) (s : State) : (finish e none s).flushOnSend = s.flushOnSend := by
  cases e <;> rfl
@[simp] theorem finish_none_maxAttempts (e : ErrCode) (s : State) : (finish e none s).maxAttempts = s.maxAttempts := by
  cases e <;> rfl
@[simp] theorem finish_none_p0 (e : ErrCode) (s : State) : (finish e none s).p0 = s.p0 := by
  cases e <;> rfl
@[simp] theorem finish_none_p1 (e : ErrCode) (s : State) : (finish e none s).p1 = s.p1 := by
  cases e <;> rfl
@[simp] theorem finish_none_p2 (e : ErrCode) (s : State) : (finish e none s).p2 = s.p2 := by
  cases e <;> rfl
@[simp] theorem finish_none_p3 (e : ErrCode) (s : State) : (finish e none s).p3 = s.p3 := by
  cases e <;> rfl
@[simp] theorem finish_none_busy (e : ErrCode) (s : State) : (finish e none s).busy = false := by
  cases e <;> rfl
@[simp] theorem finish_none_done (e : ErrCode) (s : State) : (finish e none s).done = true := by
  cases e <;> rfl
@[simp] theorem finish_none_err (e : ErrCode) (s : State) : (finish e none s).err = e := by
  cases e <;> rfl
@[simp] theorem finish_none_attempts (e : ErrCode) (s : State) : (finish e none s).attempts = s.attempts := by
  cases e <;> rfl
@[simp] theorem finish_none_resTag (e : ErrCode) (s : State) : (finish e none s).resTag = s.resTag := by
  cases e <;> rfl
@[simp] theorem finish_none_sawTimeout (e : ErrCode) (s : State) : (finish e none s).sawTimeout = s.sawTimeout := by
  cases e <;> rfl
@[simp] theorem finish_none_sawCksum (e : ErrCode) (s : State) : (finish e none s).sawCksum = s.sawCksum := by
  cases e <;> rfl
@[simp] theorem finish_none_sawNonmatch (e : ErrCode) (s : State) : (finish e none s).sawNonmatch = s.sawNonmatch := by
  cases e <;> rfl
@[simp] theorem finish_none_rxAny (e : ErrCode) (s : State) : (finish e none s).rxAny = s.rxAny := by
  cases e <;> rfl
@[simp] theorem finish_none_rxFunc (e : ErrCode) (s : State) : (finish e none s).rxFunc = s.rxFunc := by
  cases e <;> rfl
@[simp] theorem finish_none_overrun (e : ErrCode) (s : State) : (finish e none s).overrun = s.overrun := by
  cases e <;> rfl
@[simp] theorem finish_none_result0 (e : ErrCode) (s : State) : (finish e none s).result0 = s.result0 := by
  cases e <;> rfl
@[simp] theorem finish_none_result1 (e : ErrCode) (s : State) : (finish e none s).result1 = s.result1 := by
  cases e <;> rfl
@[simp] theorem finish_none_txf (e : ErrCode) (s : State) : (finish e none s).txf = s.txf := by
  cases e <;> rfl
@[simp] theorem finish_none_rxf (e : ErrCode) (s : State) : (finish e none s).rxf = s.rxf := by
  cases e <;> rfl
@[simp] theorem finish_none_ses (e : ErrCode) (s : State) : (finish e none s).ses = .idle := by
  cases e <;> rfl
@[simp] theorem finish_none_op (e : ErrCode) (s : State) : (finish e none s).op = s.op := by
  cases e <;> rfl
@[simp] theorem finish_none_expf (e : ErrCode) (s : State) : (finish e none s).expf = s.expf := by
  cases e <;> rfl
@[simp] theorem finish_none_acc (e : ErrCode) (s : State) : (finish e none s).acc = [] := by
  cases e <;> rfl
@[simp] theorem finish_none_hostMap (e : ErrCode) (s : State) : (finish e none s).hostMap = s.hostMap := by
  cases e <;> rfl
@[simp] theorem finish_none_greadHostFunc (e : ErrCode) (s : State) : (finish e none s).greadHostFunc = s.greadHostFunc := by
  cases e <;> rfl
@[simp] theorem finish_none_env (e : ErrCode) (s : State) : (finish e none s).env = s.env := by
  cases e <;> rfl
@[simp] theorem finish_none_again (e : ErrCode) (s : State) : (finish e none s).again = s.again := by
  cases e <;> rfl
@[simp] theorem finish_none_obs (e : ErrCode) (s : State) : (finish e none s).obs = s.obs := by
  cases e <;> rfl
@[simp] theorem finish_none_rdata (e : ErrCode) (s : State) : (finish e none s).rdata = s.rdata := by
  cases e <;> rfl

/-! ### finish_value -/

@[simp] theorem finish_value_driveAddr (v : Value) (s : State) : (finish .ok (some v) s).driveAddr = s.driveAddr := rfl
@[simp] theorem finish_value_debug (v : Value) (s : State) : (finish .ok (some v) s).debug = s.debug := rfl
@[simp] theorem finish_value_flushOnSend (v : Value) (s : State) : (finish .ok (some v) s).flushOnSend = s.flushOnSend := rfl
@[simp] theorem finish_value_maxAttempts (v : Value) (s : State) : (finish .ok (some v) s).maxAttempts = s.maxAttempts := rfl
@[simp] theorem finish_value_p0 (v : Value) (s : State) : (finish .ok (some v) s).p0 = s.p0 := rfl
@[simp] theorem finish_value_p1 (v : Value) (s : State) : (finish .ok (some v) s).p1 = s.p1 := rfl
@[simp] theorem finish_value_p2 (v : Value) (s : State) : (finish .ok (some v) s).p2 = s.p2 := rfl
@[simp] theorem finish_value_p3 (v : Value) (s : State) : (finish .ok (some v) s).p3 = s.p3 := rfl
@[simp] theorem finish_value_busy (v : Value) (s : State) : (finish .ok (some v) s).busy = false := rfl
@[simp] theorem finish_value_done (v : Value) (s : State) : (finish .ok (some v) s).done = true := rfl
@[simp] theorem finish_value_err (v : Value) (s : State) : (finish .ok (some v) s).err = .ok := rfl
@[simp] theorem finish_value_attempts (v : Value) (s : State) : (finish .ok (some v) s).attempts = s.attempts := rfl
@[simp] theorem finish_value_resTag (v : Value) (s : State) : (finish .ok (some v) s).resTag = v.tag := rfl
@[simp] theorem finish_value_sawTimeout (v : Value) (s : State) : (finish .ok (some v) s).sawTimeout = s.sawTimeout := rfl
@[simp] theorem finish_value_sawCksum (v : Value) (s : State) : (finish .ok (some v) s).sawCksum = s.sawCksum := rfl
@[simp] theorem finish_value_sawNonmatch (v : Value) (s : State) : (finish .ok (some v) s).sawNonmatch = s.sawNonmatch := rfl
@[simp] theorem finish_value_rxAny (v : Value) (s : State) : (finish .ok (some v) s).rxAny = s.rxAny := rfl
@[simp] theorem finish_value_rxFunc (v : Value) (s : State) : (finish .ok (some v) s).rxFunc = s.rxFunc := rfl
@[simp] theorem finish_value_overrun (v : Value) (s : State) : (finish .ok (some v) s).overrun = s.overrun := rfl
@[simp] theorem finish_value_result0 (v : Value) (s : State) : (finish .ok (some v) s).result0 = v.r0 := rfl
@[simp] theorem finish_value_result1 (v : Value) (s : State) : (finish .ok (some v) s).result1 = v.r1 := rfl
@[simp] theorem finish_value_txf (v : Value) (s : State) : (finish .ok (some v) s).txf = s.txf := rfl
@[simp] theorem finish_value_rxf (v : Value) (s : State) : (finish .ok (some v) s).rxf = s.rxf := rfl
@[simp] theorem finish_value_ses (v : Value) (s : State) : (finish .ok (some v) s).ses = .idle := rfl
@[simp] theorem finish_value_op (v : Value) (s : State) : (finish .ok (some v) s).op = s.op := rfl
@[simp] theorem finish_value_expf (v : Value) (s : State) : (finish .ok (some v) s).expf = s.expf := rfl
@[simp] theorem finish_value_acc (v : Value) (s : State) : (finish .ok (some v) s).acc = [] := rfl
@[simp] theorem finish_value_hostMap (v : Value) (s : State) : (finish .ok (some v) s).hostMap = s.hostMap := rfl
@[simp] theorem finish_value_greadHostFunc (v : Value) (s : State) : (finish .ok (some v) s).greadHostFunc = s.greadHostFunc := rfl
@[simp] theorem finish_value_env (v : Value) (s : State) : (finish .ok (some v) s).env = s.env := rfl
@[simp] theorem finish_value_again (v : Value) (s : State) : (finish .ok (some v) s).again = s.again := rfl
@[simp] theorem finish_value_obs (v : Value) (s : State) : (finish .ok (some v) s).obs = s.obs := rfl
@[simp] theorem finish_value_rdata (v : Value) (s : State) : (finish .ok (some v) s).rdata = s.rdata := rfl

/-! ### resetBlock -/

@[simp] theorem resetBlock_driveAddr (s : State) : (resetBlock s).driveAddr = State.reset.driveAddr := rfl
@[simp] theorem resetBlock_debug (s : State) : (resetBlock s).debug = State.reset.debug := rfl
@[simp] theorem resetBlock_flushOnSend (s : State) : (resetBlock s).flushOnSend = State.reset.flushOnSend := rfl
@[simp] theorem resetBlock_maxAttempts (s : State) : (resetBlock s).maxAttempts = State.reset.maxAttempts := rfl
@[simp] theorem resetBlock_p0 (s : State) : (resetBlock s).p0 = State.reset.p0 := rfl
@[simp] theorem resetBlock_p1 (s : State) : (resetBlock s).p1 = State.reset.p1 := rfl
@[simp] theorem resetBlock_p2 (s : State) : (resetBlock s).p2 = State.reset.p2 := rfl
@[simp] theorem resetBlock_p3 (s : State) : (resetBlock s).p3 = State.reset.p3 := rfl
@[simp] theorem resetBlock_busy (s : State) : (resetBlock s).busy = State.reset.busy := rfl
@[simp] theorem resetBlock_done (s : State) : (resetBlock s).done = State.reset.done := rfl
@[simp] theorem resetBlock_err (s : State) : (resetBlock s).err = State.reset.err := rfl
@[simp] theorem resetBlock_attempts (s : State) : (resetBlock s).attempts = State.reset.attempts := rfl
@[simp] theorem resetBlock_resTag (s : State) : (resetBlock s).resTag = State.reset.resTag := rfl
@[simp] theorem resetBlock_sawTimeout (s : State) : (resetBlock s).sawTimeout = State.reset.sawTimeout := rfl
@[simp] theorem resetBlock_sawCksum (s : State) : (resetBlock s).sawCksum = State.reset.sawCksum := rfl
@[simp] theorem resetBlock_sawNonmatch (s : State) : (resetBlock s).sawNonmatch = State.reset.sawNonmatch := rfl
@[simp] theorem resetBlock_rxAny (s : State) : (resetBlock s).rxAny = State.reset.rxAny := rfl
@[simp] theorem resetBlock_rxFunc (s : State) : (resetBlock s).rxFunc = State.reset.rxFunc := rfl
@[simp] theorem resetBlock_overrun (s : State) : (resetBlock s).overrun = State.reset.overrun := rfl
@[simp] theorem resetBlock_result0 (s : State) : (resetBlock s).result0 = State.reset.result0 := rfl
@[simp] theorem resetBlock_result1 (s : State) : (resetBlock s).result1 = State.reset.result1 := rfl
@[simp] theorem resetBlock_txf (s : State) : (resetBlock s).txf = State.reset.txf := rfl
@[simp] theorem resetBlock_rxf (s : State) : (resetBlock s).rxf = State.reset.rxf := rfl
@[simp] theorem resetBlock_ses (s : State) : (resetBlock s).ses = State.reset.ses := rfl
@[simp] theorem resetBlock_op (s : State) : (resetBlock s).op = State.reset.op := rfl
@[simp] theorem resetBlock_expf (s : State) : (resetBlock s).expf = State.reset.expf := rfl
@[simp] theorem resetBlock_acc (s : State) : (resetBlock s).acc = State.reset.acc := rfl
@[simp] theorem resetBlock_hostMap (s : State) : (resetBlock s).hostMap = s.hostMap := rfl
@[simp] theorem resetBlock_greadHostFunc (s : State) : (resetBlock s).greadHostFunc = s.greadHostFunc := rfl
@[simp] theorem resetBlock_env (s : State) : (resetBlock s).env = s.env := rfl
@[simp] theorem resetBlock_again (s : State) : (resetBlock s).again = s.again := rfl
@[simp] theorem resetBlock_obs (s : State) : (resetBlock s).obs = s.obs := rfl
@[simp] theorem resetBlock_rdata (s : State) : (resetBlock s).rdata = s.rdata := rfl

end Sys2Proof.Machine
end

