-- ==== Sys2Proof/Laws/Ops.lean ====
section
/-! SUPPORT. For each shared operation, once, everything it can do. Later proofs cite these and unfold no operation. -/

namespace Sys2Proof.Machine

/-! ## The operations of the session -/

/-- Everything `exhaustCode` answers (R273, R360), with the flags that decide it. -/
theorem exhaustCode_cases (s : State) :
    (s.sawNonmatch = true ∧ exhaustCode s = .unexpectedFunc) ∨
      (s.sawNonmatch = false ∧ s.sawCksum = true ∧ exhaustCode s = .checksum) ∨
      (s.sawNonmatch = false ∧ s.sawCksum = false ∧ exhaustCode s = .timeout) := by
  unfold exhaustCode
  cases s.sawNonmatch <;> cases s.sawCksum <;> simp

/-- A retry within the bound begins an attempt (R272). -/
theorem retryOrExhaust_of_lt {s : State} (h : s.attempts < s.maxAttempts) :
    retryOrExhaust s = beginAttempt s := if_pos h

/-- A retry at the bound exhausts the command (R272). -/
theorem retryOrExhaust_of_not_lt {s : State} (h : ¬ s.attempts < s.maxAttempts) :
    retryOrExhaust s = finish (exhaustCode s) none s := if_neg h

/-- Everything `retryOrExhaust` does (R272). -/
theorem retryOrExhaust_cases (s : State) :
    (s.attempts < s.maxAttempts ∧ retryOrExhaust s = beginAttempt s) ∨
      (¬ s.attempts < s.maxAttempts ∧ retryOrExhaust s = finish (exhaustCode s) none s) := by
  by_cases h : s.attempts < s.maxAttempts
  · exact .inl ⟨h, retryOrExhaust_of_lt h⟩
  · exact .inr ⟨h, retryOrExhaust_of_not_lt h⟩

/-- A failed attempt of RECV ends the command (R270). -/
theorem failAttempt_recv {e : ErrCode} {s : State} (h : s.op = .recv) : failAttempt e s = finish e none s := if_pos h

/-- A failed attempt of a matching command retries or is exhausted (R270). -/
theorem failAttempt_matching {e : ErrCode} {s : State} (h : s.op ≠ .recv) : failAttempt e s = retryOrExhaust s :=
  if_neg h

/-- Everything `send` does (R264). -/
theorem send_cases (s : State) :
    (s.flushOnSend = true ∧ send s = { s with busy := true, ses := .flushing }) ∨
      (s.flushOnSend = false ∧ send s = issueWrite { s with busy := true }) := by
  unfold send
  cases s.flushOnSend <;> simp

/-- Everything a command start does (R260, R420): a next state is the drop, or the started command's. -/
theorem startCommand_next {s t : State} {k : State → Host.Outcome State Fault Refusal}
    (h : startCommand s k = .next t) :
    (s.busy = true ∧ t = dropWrite s) ∨ (s.busy = false ∧ k (clearForStart s) = .next t) := by
  unfold startCommand at h
  cases hb : s.busy <;> simp_all

/-- A command word written while busy is dropped (R420). -/
theorem startCommand_busy {s : State} (k : State → Host.Outcome State Fault Refusal) (h : s.busy = true) :
    startCommand s k = .next (dropWrite s) := if_pos h

/-- A command word written while idle starts (R260). -/
theorem startCommand_idle {s : State} (k : State → Host.Outcome State Fault Refusal) (h : s.busy = false) :
    startCommand s k = k (clearForStart s) := by simp [startCommand, h]

/-- What the observation port gets (R381): one record when debugging, else none. -/
theorem emit_cases (d : Dir) (bs : List Byte) (s : State) :
    (s.debug = false ∧ emit d bs s = s) ∨ (s.debug = true ∧ emit d bs s = { s with obs := s.obs ++ [⟨d, bs⟩] }) := by
  unfold emit
  cases hd : s.debug <;> simp
  rw [← hd]

/-! ## The identifiers -/

/-- A property of an identifier holds when it holds of the 32 of them. -/
theorem ident_cases {P : Ident → Prop} (h : ∀ n : Fin 32, P (BitVec.ofFin n)) (f : Ident) : P f := h f.toFin

/-- Every outbound identifier acts alike under the latched command (R310 to R341). -/
theorem txMeaning_eq (h : Ident) (lc : LenCode) (s : State) : txMeaning h lc s = .next (txPerform h lc s) := by
  revert h
  refine ident_cases fun n => ?_
  fin_cases n <;> rfl

/-- The instruction of an outbound identifier runs its meaning. -/
theorem exec_txInstr (h : Ident) (lc : LenCode) (s : State) : exec (txInstr h lc) s = txMeaning h lc s := by
  revert h
  refine ident_cases fun n => ?_
  fin_cases n <;> rfl

/-- The decoder's verdict on a frame of identifier `f` with length code `lc` (R191), as the meanings of `rx.f` say it. -/
def rxVerdict (f : Ident) (lc : LenCode) (frame : List Byte) : Verdict :=
  if f ≤ 0x0a#5 ∨ f = 0x1f#5 then .unallowed
  else if f ≤ 0x0f#5 ∨ f = 0x1c#5 ∨ f = 0x1d#5 then .unknown
  else if f ≤ 0x17#5 then scalarVerdict lc frame
  else if f = 0x18#5 then gearVerdict lc frame
  else if f = 0x19#5 then statusVerdict lc frame
  else if f = 0x1a#5 then configVerdict lc frame
  else signedVerdict frame

/-- Every inbound identifier is judged by its verdict (R200 to R231). -/
theorem rxMeaning_eq (f : Ident) (lc : LenCode) (s : State) :
    rxMeaning f lc s = .next (rxJudge f (rxVerdict f lc s.rxf) s) := by
  revert f
  refine ident_cases fun n => ?_
  fin_cases n <;> rfl

/-- The instruction of an inbound identifier runs its meaning. -/
theorem exec_rxInstr (f : Ident) (lc : LenCode) (s : State) : exec (rxInstr f lc) s = rxMeaning f lc s := by
  revert f
  refine ident_cases fun n => ?_
  fin_cases n <;> rfl

/-- An untyped identifier gives no value and no length mismatch (R99, R197). -/
theorem rxVerdict_untyped (f : Ident) (lc : LenCode) (frame : List Byte) :
    verifyFuncId f = false → rxVerdict f lc frame = .unallowed ∨ rxVerdict f lc frame = .unknown := by
  revert f
  refine ident_cases fun n => ?_
  fin_cases n <;> simp [rxVerdict, verifyFuncId]

/-- A typed identifier gives a value or a length mismatch (R99, R197). -/
theorem rxVerdict_typed (f : Ident) (lc : LenCode) (frame : List Byte) :
    verifyFuncId f = true → rxVerdict f lc frame = .lengthMismatch ∨ ∃ v, rxVerdict f lc frame = .value v := by
  have hr (want : LenCode) (v : Value) :
      requireLength lc want v = .lengthMismatch ∨ ∃ x, requireLength lc want v = .value x := by
    unfold requireLength
    split <;> simp
  revert f
  refine ident_cases fun n => ?_
  fin_cases n <;> intro h <;>
    first
    | exact absurd h (by decide)
    | exact hr _ _
    | exact .inr ⟨_, rfl⟩

/-- Everything the judgement of a frame does (R270): the command completes with a code, or the frame is a
non-matching one. -/
theorem rxJudge_cases (fid : Ident) (v : Verdict) (s : State) :
    (∃ x, v = .value x ∧ (s.op = .recv ∨ fid = s.expf) ∧ rxJudge fid v s = finish .ok (some x) s) ∨
      (v = .lengthMismatch ∧ (s.op = .recv ∨ fid = s.expf) ∧ rxJudge fid v s = finish .length none s) ∨
      (v = .unallowed ∧ s.op = .recv ∧ rxJudge fid v s = finish .unallowed none s) ∨
      (v = .unknown ∧ s.op = .recv ∧ rxJudge fid v s = finish .unrecognized none s) ∨
      (s.op ≠ .recv ∧ (fid ≠ s.expf ∨ v = .unallowed ∨ v = .unknown) ∧ rxJudge fid v s = nonMatch s) := by
  unfold rxJudge
  by_cases hr : s.op = .recv
  · cases v <;> simp [hr]
  · by_cases hf : fid = s.expf <;> cases v <;> simp [hr, hf]

/-- Everything an outbound identifier does under the latched command (R310 to R341). -/
theorem txPerform_cases (h : Ident) (lc : LenCode) (s : State) :
    (s.op = .encode ∧ txPerform h lc s = finish .ok none (storeFrame (buildFrame s h lc) s)) ∨
      (s.op = .write ∧ txPerform h lc s = send (storeFrame (buildFrame s h lc) s)) ∨
      (s.op = .read ∧ s.hostMap[h.toFin] = none ∧ txPerform h lc s = finish .unknownFunc none s) ∨
      (s.op = .read ∧ ∃ d, s.hostMap[h.toFin] = some d ∧
        txPerform h lc s = send (storeFrame (buildFrame s h lc) (expect d s))) ∨
      (s.op = .gread ∧ txPerform h lc s = send (storeFrame (generalReadFrame s h s.expf) s)) ∨
      ((s.op = .await ∨ s.op = .recv ∨ s.op = .flush) ∧ txPerform h lc s = s) := by
  unfold txPerform
  cases hop : s.op <;> simp
  cases hm : s.hostMap[h.toNat] <;> simp

/-! ## The Frame Reader -/

/-- Whether a byte ends its frame (R163, R166). -/
theorem endOrGoOn_cases (acc : List Byte) :
    (frameComplete acc = true ∧ endOrGoOn acc = ([], some (.frame acc))) ∨
      (frameComplete acc = false ∧ endOrGoOn acc = (acc, none)) := by
  unfold endOrGoOn
  cases frameComplete acc <;> simp

/-- Everything the reader does with a byte (R163): it starts a frame, drops the byte, or appends it. -/
theorem readerStep_byte (acc : List Byte) (b : Byte) :
    (isContinuation b = false ∧ readerStep acc (.byte b) = ([b], none)) ∨
      (isContinuation b = true ∧ acc = [] ∧ readerStep acc (.byte b) = ([], none)) ∨
      (isContinuation b = true ∧ acc ≠ [] ∧ readerStep acc (.byte b) = endOrGoOn (acc ++ [b])) := by
  cases hb : isContinuation b
  · simp [readerStep, hb, endOrGoOn, frameComplete]
  · cases acc <;> simp [readerStep, hb]

/-- Whenever an attempt ends, the accumulator is empty (R163). -/
theorem readerStep_outcome {acc acc' : List Byte} {a : ReadAnswer} {o : Outcome}
    (h : readerStep acc a = (acc', some o)) : acc' = [] := by
  cases a with
  | timeout => simp [readerStep] at h; exact h.1
  | fail => simp [readerStep] at h; exact h.1
  | byte b =>
    rcases readerStep_byte acc b with ⟨_, h'⟩ | ⟨_, _, h'⟩ | ⟨_, _, h'⟩ <;> rw [h'] at h
    · simp at h
    · simp at h
    · rcases endOrGoOn_cases (acc ++ [b]) with ⟨_, h''⟩ | ⟨_, h''⟩ <;> rw [h''] at h <;> simp at h
      exact h.1

/-- A frame the reader completes is its accumulator with the new byte, and is complete (R163, R166). -/
theorem readerStep_frame {acc acc' : List Byte} {a : ReadAnswer} {f : List Byte}
    (h : readerStep acc a = (acc', some (.frame f))) :
    ∃ b, a = .byte b ∧ isContinuation b = true ∧ acc ≠ [] ∧ f = acc ++ [b] ∧ frameComplete f = true := by
  cases a with
  | timeout => simp [readerStep] at h
  | fail => simp [readerStep] at h
  | byte b =>
    refine ⟨b, rfl, ?_⟩
    rcases readerStep_byte acc b with ⟨_, h'⟩ | ⟨_, _, h'⟩ | ⟨hb, ha, h'⟩ <;> rw [h'] at h
    · simp at h
    · simp at h
    · rcases endOrGoOn_cases (acc ++ [b]) with ⟨hc, h''⟩ | ⟨_, h''⟩ <;> rw [h''] at h <;> simp at h
      exact ⟨hb, ha, h.2.symm, h.2 ▸ hc⟩

/-! ## The commands -/

/-- ENCODE as one command start (R260). -/
theorem exec_encode (func : Ident) (lc : LenCode) (s : State) :
    exec (.encode func lc) s = startCommand s fun s' => txMeaning func lc (latchOp .encode s') := rfl

/-- WRITE as one command start (R260). -/
theorem exec_write (func : Ident) (lc : LenCode) (s : State) :
    exec (.write func lc) s = startCommand s fun s' => txMeaning func lc (latchOp .write s') := rfl

/-- READ as one command start (R260). -/
theorem exec_read (h : Ident) (lc : LenCode) (s : State) :
    exec (.read h lc) s = startCommand s fun s' => txMeaning h lc (latchOp .read s') := rfl

/-- GREAD as one command start (R260). -/
theorem exec_gread (g : Ident) (lc : LenCode) (s : State) :
    exec (.gread g lc) s = startCommand s fun s' =>
      if verifyFuncId g then txMeaning s'.greadHostFunc 0 (expect g (latchOp .gread s'))
      else .next (finish .unknownFunc none (latchOp .gread s')) := rfl

/-- AWAIT as one command start (R260). -/
theorem exec_await (d : Ident) (lc : LenCode) (s : State) :
    exec (.await d lc) s = startCommand s fun s' =>
      if verifyFuncId d then .next (beginAttempt (expect d (latchOp .await s')))
      else .next (finish .unknownFunc none (latchOp .await s')) := rfl

/-- RECV as one command start (R260). -/
theorem exec_recv (func : Ident) (lc : LenCode) (s : State) :
    exec (.recv func lc) s = startCommand s fun s' => .next (beginAttempt (latchOp .recv s')) := rfl

/-- FLUSH as one command start (R260). -/
theorem exec_flush (func : Ident) (lc : LenCode) (s : State) :
    exec (.flush func lc) s =
      startCommand s fun s' => .next { latchOp .flush s' with busy := true, ses := .flushing } := rfl

/-- An illegal word as one command start (R260). -/
theorem exec_illegal (w : Word) (s : State) :
    exec (.illegal w) s = startCommand s fun s' => .next (finish .illegalCmd none s') := rfl

/-- The instructions a command word can spell (R105). -/
theorem decodeCmd_cases (w : Word) :
    (∃ f lc, decodeCmd w = .encode f lc) ∨ (∃ f lc, decodeCmd w = .write f lc) ∨ (∃ f lc, decodeCmd w = .read f lc) ∨
      (∃ f lc, decodeCmd w = .gread f lc) ∨ (∃ f lc, decodeCmd w = .await f lc) ∨
      (∃ f lc, decodeCmd w = .recv f lc) ∨ (∃ f lc, decodeCmd w = .flush f lc) ∨ decodeCmd w = .illegal w := by
  unfold decodeCmd
  dsimp only
  split
  · simp
  · split <;> simp

/-! ## Answers and steps -/

/-- An answer to `TFlush()` (R264). -/
theorem deliver_flushAck {s : State} (h : s.ses = .flushing) : deliver .flushAck s = .next (onFlushAck s) := by
  unfold deliver
  rw [h]

/-- An answer to `TWrite` (R265). -/
theorem deliver_count {s : State} (c : Nat) (h : s.ses = .writing) : deliver (.count c) s = .next (onCount c s) := by
  unfold deliver
  rw [h]

/-- A byte in READING (R267). -/
theorem deliver_byte {s : State} (b : Byte) (h : s.ses = .reading) : deliver (.byte b) s = onRead (.byte b) s := by
  unfold deliver
  rw [h]

/-- A timeout in READING (R267). -/
theorem deliver_timeout {s : State} (h : s.ses = .reading) : deliver .timeout s = onRead .timeout s := by
  unfold deliver
  rw [h]

/-- A failure in READING (R267). -/
theorem deliver_fail {s : State} (h : s.ses = .reading) : deliver .fail s = onRead .fail s := by
  unfold deliver
  rw [h]

/-- An answer that does not fit the outstanding request is dropped (log 4). -/
theorem deliver_misfit {s : State} {a : TAnswer} (h : answerFits s.ses a = false) : deliver a s = .next s := by
  unfold deliver
  unfold answerFits at h
  cases hs : s.ses <;> cases a <;> simp_all

/-- The judgement of a completed frame is always a next state (R270). -/
theorem judgeFrame_eq (f : List Byte) (s : State) :
    judgeFrame f s =
      .next (if cksOk f then
        rxJudge (identOf (f.getD 1 0)) (rxVerdict (identOf (f.getD 1 0)) (lenCodeOf (f.getD 1 0)) s.rxf) s
      else failAttempt .checksum (noteCksum s)) := by
  unfold judgeFrame
  cases cksOk f <;> simp [rxMeaning_eq]

/-- The state after an attempt's end (R271). -/
def afterAttempt (o : Outcome) (s : State) : State :=
  match o with
  | .fail => finish .transport none (countAttempt s)
  | .timeout => failAttempt .timeout (noteTimeout (countAttempt s))
  | .frame f =>
    if cksOk f then
      rxJudge (identOf (f.getD 1 0)) (rxVerdict (identOf (f.getD 1 0)) (lenCodeOf (f.getD 1 0)) f)
        (noteFrame f (countAttempt s))
    else failAttempt .checksum (noteCksum (noteFrame f (countAttempt s)))

/-- The end of an attempt is always a next state (R271). -/
theorem endAttempt_eq (o : Outcome) (s : State) : endAttempt o s = .next (afterAttempt o s) := by
  cases o <;> simp [endAttempt, afterAttempt, judgeFrame_eq]

/-- The state after an answer to `TRead1()` (R267). -/
def afterRead (a : ReadAnswer) (s : State) : State :=
  match readerStep s.acc a with
  | (acc', none) => { s with acc := acc' }
  | (acc', some o) => afterAttempt o { s with acc := acc' }

/-- An answer to `TRead1()` always gives a next state (R267). -/
theorem onRead_eq (a : ReadAnswer) (s : State) : onRead a s = .next (afterRead a s) := by
  unfold onRead afterRead
  rcases readerStep s.acc a with ⟨acc', _ | o⟩ <;> simp [endAttempt_eq]

/-- Events of the script come before the repeated ones. -/
theorem pending_cons {s : State} {e : Event} {rest : List Event} (h : s.env = e :: rest) : s.pending = e :: rest := by
  simp [State.pending, h]

/-- Once the script is used up, the repeated events come from their beginning. -/
theorem pending_nil {s : State} (h : s.env = []) : s.pending = s.again := by simp [State.pending, h]

/-- With no event the block waits (log 3). -/
theorem step_nil {s : State} (h : s.pending = []) : step s = .next s := by simp [step, h]

/-- With an event to come the block handles it (R19). -/
theorem step_pending {s : State} {e : Event} {rest : List Event} (h : s.pending = e :: rest) :
    step s = handle e { s with env := rest } := by simp [step, h]

/-- With an event in the script the block handles it (R19). -/
theorem step_cons {s : State} {e : Event} {rest : List Event} (h : s.env = e :: rest) :
    step s = handle e { s with env := rest } := step_pending (pending_cons h)

/-- The next step under an oracle is the machine's step with the oracle's event to come (R47). -/
theorem runUnder_succ {o : Nat → Event} {n : Nat} {s t : State} (h : runUnder o n s = .next t) :
    runUnder o (n + 1) s = handle (o n) { t with env := [] } := by
  rw [runUnder, h]
  exact step_cons rfl

/-- One step of a run, on any machine. -/
theorem run_succ_of {M : Host.Core} {s t : M.State} (n : Nat) (h : M.step s = .next t) :
    M.run (n + 1) s = M.run n t := by
  rw [Host.Core.run, h]

/-- A run in two parts, on any machine. -/
theorem run_add_of {M : Host.Core} (n m : Nat) {s t : M.State} (h : M.run n s = .next t) :
    M.run (n + m) s = M.run m t := by
  induction n generalizing s with
  | zero =>
    rw [Host.Core.run] at h
    cases h
    rw [Nat.zero_add]
  | succ n ih =>
    rw [Nat.succ_add, Host.Core.run]
    rw [Host.Core.run] at h
    cases hs : M.step s <;> rw [hs] at h
    · exact ih h
    · cases h
    · cases h

/-- One step of a run. -/
theorem run_succ {s t : State} (n : Nat) (h : step s = .next t) :
    Sys2Proof.core.run (n + 1) s = Sys2Proof.core.run n t :=
  run_succ_of (M := Sys2Proof.core) n h

/-- A run in two parts. -/
theorem run_add (n m : Nat) {s t : State} (h : Sys2Proof.core.run n s = .next t) :
    Sys2Proof.core.run (n + m) s = Sys2Proof.core.run m t :=
  run_add_of (M := Sys2Proof.core) n m h

end Sys2Proof.Machine
end

