-- ==== Sys2Proof/Laws/PerInstr.lean ====
section
/-! SUPPORT. Statements about every instruction as syntax, one lemma for each constructor. -/

namespace Sys2Proof.Laws

/-- A row of spec/opcode_table.json: its format with its `match` value. The mask of the seven legal rows of format CMD is
0xFFFCE0FF, that of TXB1 and RXB1 is 0x9F; `illegal` takes every word that no legal row takes (R104, R105). -/
inductive Row where
  | cmd (m : Word)
  | illegal
  | tx (m : Byte)
  | rx (m : Byte)

/-- The row of each instruction, from spec/opcode_table.json. -/
def rowOf (i : Instr) : Row :=
  match i with
  | .encode _ _ => .cmd 0x00000000#32
  | .write _ _ => .cmd 0x00000001#32
  | .read _ _ => .cmd 0x00000002#32
  | .gread _ _ => .cmd 0x00000003#32
  | .await _ _ => .cmd 0x00000004#32
  | .recv _ _ => .cmd 0x00000005#32
  | .flush _ _ => .cmd 0x00000006#32
  | .illegal _ => .illegal
  | .tx00 _ => .tx 0x80#8
  | .tx01 _ => .tx 0x81#8
  | .tx02 _ => .tx 0x82#8
  | .tx03 _ => .tx 0x83#8
  | .tx04 _ => .tx 0x84#8
  | .tx05 _ => .tx 0x85#8
  | .tx06 _ => .tx 0x86#8
  | .tx07 _ => .tx 0x87#8
  | .tx08 _ => .tx 0x88#8
  | .tx09 _ => .tx 0x89#8
  | .tx0a _ => .tx 0x8A#8
  | .tx0b _ => .tx 0x8B#8
  | .tx0c _ => .tx 0x8C#8
  | .tx0d _ => .tx 0x8D#8
  | .tx0e _ => .tx 0x8E#8
  | .tx0f _ => .tx 0x8F#8
  | .tx10 _ => .tx 0x90#8
  | .tx11 _ => .tx 0x91#8
  | .tx12 _ => .tx 0x92#8
  | .tx13 _ => .tx 0x93#8
  | .tx14 _ => .tx 0x94#8
  | .tx15 _ => .tx 0x95#8
  | .tx16 _ => .tx 0x96#8
  | .tx17 _ => .tx 0x97#8
  | .tx18 _ => .tx 0x98#8
  | .tx19 _ => .tx 0x99#8
  | .tx1a _ => .tx 0x9A#8
  | .tx1b _ => .tx 0x9B#8
  | .tx1c _ => .tx 0x9C#8
  | .tx1d _ => .tx 0x9D#8
  | .tx1e _ => .tx 0x9E#8
  | .tx1f _ => .tx 0x9F#8
  | .rx00 _ => .rx 0x80#8
  | .rx01 _ => .rx 0x81#8
  | .rx02 _ => .rx 0x82#8
  | .rx03 _ => .rx 0x83#8
  | .rx04 _ => .rx 0x84#8
  | .rx05 _ => .rx 0x85#8
  | .rx06 _ => .rx 0x86#8
  | .rx07 _ => .rx 0x87#8
  | .rx08 _ => .rx 0x88#8
  | .rx09 _ => .rx 0x89#8
  | .rx0a _ => .rx 0x8A#8
  | .rx0b _ => .rx 0x8B#8
  | .rx0c _ => .rx 0x8C#8
  | .rx0d _ => .rx 0x8D#8
  | .rx0e _ => .rx 0x8E#8
  | .rx0f _ => .rx 0x8F#8
  | .rx10 _ => .rx 0x90#8
  | .rx11 _ => .rx 0x91#8
  | .rx12 _ => .rx 0x92#8
  | .rx13 _ => .rx 0x93#8
  | .rx14 _ => .rx 0x94#8
  | .rx15 _ => .rx 0x95#8
  | .rx16 _ => .rx 0x96#8
  | .rx17 _ => .rx 0x97#8
  | .rx18 _ => .rx 0x98#8
  | .rx19 _ => .rx 0x99#8
  | .rx1a _ => .rx 0x9A#8
  | .rx1b _ => .rx 0x9B#8
  | .rx1c _ => .rx 0x9C#8
  | .rx1d _ => .rx 0x9D#8
  | .rx1e _ => .rx 0x9E#8
  | .rx1f _ => .rx 0x9F#8

/-- Whether bits of one of the three encoding spaces are a row's. -/
def Row.takes (r : Row) (c : Code) : Prop :=
  match r, c with
  | .cmd m, .cmd w => w &&& 0xFFFCE0FF#32 = m
  | .illegal, .cmd w => ¬ (w &&& 0xFFFCE0FF#32).toNat < 7
  | .tx m, .tx b => b &&& 0x9F#8 = m
  | .rx m, .rx b => b &&& 0x9F#8 = m
  | _, _ => False

/-- Family `TableRow`: the encoding of a well-formed instruction is one its row of the opcode table takes. -/
def TableRow.Statement (i : Instr) : Prop := i.wellFormed = true → (rowOf i).takes (encode i)

/-- The bits of a command word under the mask of the legal rows are its OP. -/
theorem cmdWord_masked (op : BitVec 3) (func : Ident) (lc : LenCode) :
    cmdWord op func lc &&& 0xFFFCE0FF#32 = op.setWidth 32 := by
  revert op func lc
  decide

/-- The bits of byte 1 under the mask of its rows are the marker and the identifier. -/
theorem byte1_masked (f : Ident) (lc : LenCode) : byte1 f lc &&& 0x9F#8 = 0x80#8 ||| f.setWidth 8 := by
  revert f lc
  decide

/-- An illegal word is none that a legal row takes (R104). -/
theorem illegal_masked (w : Word) (h : isIllegalWord w = true) : ¬ (w &&& 0xFFFCE0FF#32).toNat < 7 := by
  intro hlt
  have hop : (w &&& 0xFFFCE0FF#32).extractLsb' 0 3 = w.extractLsb' 0 3 := by
    rw [BitVec.extractLsb'_and, show (0xFFFCE0FF#32).extractLsb' 0 3 = BitVec.allOnes 3 by decide, BitVec.and_allOnes]
  have hres : (w &&& 0xFFFCE0FF#32) &&& 0xFFFFFFF8#32 = w &&& 0xFFFCE0F8#32 := by
    rw [BitVec.and_assoc, show 0xFFFCE0FF#32 &&& 0xFFFFFFF8#32 = 0xFFFCE0F8#32 by decide]
  simp only [isIllegalWord, Bool.or_eq_true, beq_iff_eq, bne_iff_ne] at h
  rw [← hop, ← hres] at h
  generalize w &&& 0xFFFCE0FF#32 = x at *
  have hx : x = 0#32 ∨ x = 1#32 ∨ x = 2#32 ∨ x = 3#32 ∨ x = 4#32 ∨ x = 5#32 ∨ x = 6#32 := by bv_omega
  rcases hx with rfl | rfl | rfl | rfl | rfl | rfl | rfl <;> revert h <;> decide

theorem TableRow.encode (func : Ident) (lc : LenCode) : TableRow.Statement (.encode func lc) := fun _ => cmdWord_masked 0#3 func lc

theorem TableRow.write (func : Ident) (lc : LenCode) : TableRow.Statement (.write func lc) := fun _ => cmdWord_masked 1#3 func lc

theorem TableRow.read (h : Ident) (lc : LenCode) : TableRow.Statement (.read h lc) := fun _ => cmdWord_masked 2#3 h lc

theorem TableRow.gread (g : Ident) (lc : LenCode) : TableRow.Statement (.gread g lc) := fun _ => cmdWord_masked 3#3 g lc

theorem TableRow.await (d : Ident) (lc : LenCode) : TableRow.Statement (.await d lc) := fun _ => cmdWord_masked 4#3 d lc

theorem TableRow.recv (func : Ident) (lc : LenCode) : TableRow.Statement (.recv func lc) := fun _ => cmdWord_masked 5#3 func lc

theorem TableRow.flush (func : Ident) (lc : LenCode) : TableRow.Statement (.flush func lc) := fun _ => cmdWord_masked 6#3 func lc

theorem TableRow.illegal (w : Word) : TableRow.Statement (.illegal w) := fun h => illegal_masked w h

theorem TableRow.tx00 (lc : LenCode) : TableRow.Statement (.tx00 lc) := fun _ => byte1_masked 0x00#5 lc

theorem TableRow.tx01 (lc : LenCode) : TableRow.Statement (.tx01 lc) := fun _ => byte1_masked 0x01#5 lc

theorem TableRow.tx02 (lc : LenCode) : TableRow.Statement (.tx02 lc) := fun _ => byte1_masked 0x02#5 lc

theorem TableRow.tx03 (lc : LenCode) : TableRow.Statement (.tx03 lc) := fun _ => byte1_masked 0x03#5 lc

theorem TableRow.tx04 (lc : LenCode) : TableRow.Statement (.tx04 lc) := fun _ => byte1_masked 0x04#5 lc

theorem TableRow.tx05 (lc : LenCode) : TableRow.Statement (.tx05 lc) := fun _ => byte1_masked 0x05#5 lc

theorem TableRow.tx06 (lc : LenCode) : TableRow.Statement (.tx06 lc) := fun _ => byte1_masked 0x06#5 lc

theorem TableRow.tx07 (lc : LenCode) : TableRow.Statement (.tx07 lc) := fun _ => byte1_masked 0x07#5 lc

theorem TableRow.tx08 (lc : LenCode) : TableRow.Statement (.tx08 lc) := fun _ => byte1_masked 0x08#5 lc

theorem TableRow.tx09 (lc : LenCode) : TableRow.Statement (.tx09 lc) := fun _ => byte1_masked 0x09#5 lc

theorem TableRow.tx0a (lc : LenCode) : TableRow.Statement (.tx0a lc) := fun _ => byte1_masked 0x0a#5 lc

theorem TableRow.tx0b (lc : LenCode) : TableRow.Statement (.tx0b lc) := fun _ => byte1_masked 0x0b#5 lc

theorem TableRow.tx0c (lc : LenCode) : TableRow.Statement (.tx0c lc) := fun _ => byte1_masked 0x0c#5 lc

theorem TableRow.tx0d (lc : LenCode) : TableRow.Statement (.tx0d lc) := fun _ => byte1_masked 0x0d#5 lc

theorem TableRow.tx0e (lc : LenCode) : TableRow.Statement (.tx0e lc) := fun _ => byte1_masked 0x0e#5 lc

theorem TableRow.tx0f (lc : LenCode) : TableRow.Statement (.tx0f lc) := fun _ => byte1_masked 0x0f#5 lc

theorem TableRow.tx10 (lc : LenCode) : TableRow.Statement (.tx10 lc) := fun _ => byte1_masked 0x10#5 lc

theorem TableRow.tx11 (lc : LenCode) : TableRow.Statement (.tx11 lc) := fun _ => byte1_masked 0x11#5 lc

theorem TableRow.tx12 (lc : LenCode) : TableRow.Statement (.tx12 lc) := fun _ => byte1_masked 0x12#5 lc

theorem TableRow.tx13 (lc : LenCode) : TableRow.Statement (.tx13 lc) := fun _ => byte1_masked 0x13#5 lc

theorem TableRow.tx14 (lc : LenCode) : TableRow.Statement (.tx14 lc) := fun _ => byte1_masked 0x14#5 lc

theorem TableRow.tx15 (lc : LenCode) : TableRow.Statement (.tx15 lc) := fun _ => byte1_masked 0x15#5 lc

theorem TableRow.tx16 (lc : LenCode) : TableRow.Statement (.tx16 lc) := fun _ => byte1_masked 0x16#5 lc

theorem TableRow.tx17 (lc : LenCode) : TableRow.Statement (.tx17 lc) := fun _ => byte1_masked 0x17#5 lc

theorem TableRow.tx18 (lc : LenCode) : TableRow.Statement (.tx18 lc) := fun _ => byte1_masked 0x18#5 lc

theorem TableRow.tx19 (lc : LenCode) : TableRow.Statement (.tx19 lc) := fun _ => byte1_masked 0x19#5 lc

theorem TableRow.tx1a (lc : LenCode) : TableRow.Statement (.tx1a lc) := fun _ => byte1_masked 0x1a#5 lc

theorem TableRow.tx1b (lc : LenCode) : TableRow.Statement (.tx1b lc) := fun _ => byte1_masked 0x1b#5 lc

theorem TableRow.tx1c (lc : LenCode) : TableRow.Statement (.tx1c lc) := fun _ => byte1_masked 0x1c#5 lc

theorem TableRow.tx1d (lc : LenCode) : TableRow.Statement (.tx1d lc) := fun _ => byte1_masked 0x1d#5 lc

theorem TableRow.tx1e (lc : LenCode) : TableRow.Statement (.tx1e lc) := fun _ => byte1_masked 0x1e#5 lc

theorem TableRow.tx1f (lc : LenCode) : TableRow.Statement (.tx1f lc) := fun _ => byte1_masked 0x1f#5 lc

theorem TableRow.rx00 (lc : LenCode) : TableRow.Statement (.rx00 lc) := fun _ => byte1_masked 0x00#5 lc

theorem TableRow.rx01 (lc : LenCode) : TableRow.Statement (.rx01 lc) := fun _ => byte1_masked 0x01#5 lc

theorem TableRow.rx02 (lc : LenCode) : TableRow.Statement (.rx02 lc) := fun _ => byte1_masked 0x02#5 lc

theorem TableRow.rx03 (lc : LenCode) : TableRow.Statement (.rx03 lc) := fun _ => byte1_masked 0x03#5 lc

theorem TableRow.rx04 (lc : LenCode) : TableRow.Statement (.rx04 lc) := fun _ => byte1_masked 0x04#5 lc

theorem TableRow.rx05 (lc : LenCode) : TableRow.Statement (.rx05 lc) := fun _ => byte1_masked 0x05#5 lc

theorem TableRow.rx06 (lc : LenCode) : TableRow.Statement (.rx06 lc) := fun _ => byte1_masked 0x06#5 lc

theorem TableRow.rx07 (lc : LenCode) : TableRow.Statement (.rx07 lc) := fun _ => byte1_masked 0x07#5 lc

theorem TableRow.rx08 (lc : LenCode) : TableRow.Statement (.rx08 lc) := fun _ => byte1_masked 0x08#5 lc

theorem TableRow.rx09 (lc : LenCode) : TableRow.Statement (.rx09 lc) := fun _ => byte1_masked 0x09#5 lc

theorem TableRow.rx0a (lc : LenCode) : TableRow.Statement (.rx0a lc) := fun _ => byte1_masked 0x0a#5 lc

theorem TableRow.rx0b (lc : LenCode) : TableRow.Statement (.rx0b lc) := fun _ => byte1_masked 0x0b#5 lc

theorem TableRow.rx0c (lc : LenCode) : TableRow.Statement (.rx0c lc) := fun _ => byte1_masked 0x0c#5 lc

theorem TableRow.rx0d (lc : LenCode) : TableRow.Statement (.rx0d lc) := fun _ => byte1_masked 0x0d#5 lc

theorem TableRow.rx0e (lc : LenCode) : TableRow.Statement (.rx0e lc) := fun _ => byte1_masked 0x0e#5 lc

theorem TableRow.rx0f (lc : LenCode) : TableRow.Statement (.rx0f lc) := fun _ => byte1_masked 0x0f#5 lc

theorem TableRow.rx10 (lc : LenCode) : TableRow.Statement (.rx10 lc) := fun _ => byte1_masked 0x10#5 lc

theorem TableRow.rx11 (lc : LenCode) : TableRow.Statement (.rx11 lc) := fun _ => byte1_masked 0x11#5 lc

theorem TableRow.rx12 (lc : LenCode) : TableRow.Statement (.rx12 lc) := fun _ => byte1_masked 0x12#5 lc

theorem TableRow.rx13 (lc : LenCode) : TableRow.Statement (.rx13 lc) := fun _ => byte1_masked 0x13#5 lc

theorem TableRow.rx14 (lc : LenCode) : TableRow.Statement (.rx14 lc) := fun _ => byte1_masked 0x14#5 lc

theorem TableRow.rx15 (lc : LenCode) : TableRow.Statement (.rx15 lc) := fun _ => byte1_masked 0x15#5 lc

theorem TableRow.rx16 (lc : LenCode) : TableRow.Statement (.rx16 lc) := fun _ => byte1_masked 0x16#5 lc

theorem TableRow.rx17 (lc : LenCode) : TableRow.Statement (.rx17 lc) := fun _ => byte1_masked 0x17#5 lc

theorem TableRow.rx18 (lc : LenCode) : TableRow.Statement (.rx18 lc) := fun _ => byte1_masked 0x18#5 lc

theorem TableRow.rx19 (lc : LenCode) : TableRow.Statement (.rx19 lc) := fun _ => byte1_masked 0x19#5 lc

theorem TableRow.rx1a (lc : LenCode) : TableRow.Statement (.rx1a lc) := fun _ => byte1_masked 0x1a#5 lc

theorem TableRow.rx1b (lc : LenCode) : TableRow.Statement (.rx1b lc) := fun _ => byte1_masked 0x1b#5 lc

theorem TableRow.rx1c (lc : LenCode) : TableRow.Statement (.rx1c lc) := fun _ => byte1_masked 0x1c#5 lc

theorem TableRow.rx1d (lc : LenCode) : TableRow.Statement (.rx1d lc) := fun _ => byte1_masked 0x1d#5 lc

theorem TableRow.rx1e (lc : LenCode) : TableRow.Statement (.rx1e lc) := fun _ => byte1_masked 0x1e#5 lc

theorem TableRow.rx1f (lc : LenCode) : TableRow.Statement (.rx1f lc) := fun _ => byte1_masked 0x1f#5 lc

end Sys2Proof.Laws
end

