-- ==== Sys2Proof/Tests/Slice0.lean ====
section
/-! SUPPORT. Tests: expected results are the spec's own vectors (95_test_vectors.md) or worked out by hand from the rule
named; and, for each statement with hypotheses, values that meet them. -/

namespace Sys2Proof.Machine

/-- The start state of the vectors: reset, DRIVE_ADDR 1 (95_test_vectors.md). -/
def drive1 : State := { State.reset with driveAddr := 1#5 }

/-- A command `o` in READING that expects `d`, with `n` of 3 attempts ended, a partial frame and a script. -/
def inReading (o : Op) (d : Ident) (n : BitVec 4) (acc : List Byte) (env : List Event) : State :=
  { drive1 with busy := true, ses := .reading, op := o, expf := d, attempts := n, acc := acc, env := env }

/-- A RECV that lacks only the last byte of a frame. -/
def recvOf (f : List Byte) : State := inReading .recv 0#5 0#4 f.dropLast [.answer (.byte (f.getLastD 0))]

/-- A command in progress with its request outstanding. -/
def inSession (o : Op) (ses : Session) (env : List Event) : State :=
  { drive1 with busy := true, ses := ses, op := o, txf := [0x01#8, 0x98#8, 0x80#8, 0x99#8], env := env }

/-- Transport answers, one a byte. -/
def bytes (bs : List Byte) : List Event := bs.map fun b => .answer (.byte b)

/-- What the host reads at STATUS, RESULT0 and RESULT1 after an outcome. -/
def seen (o : Host.Outcome State Fault Refusal) : Option (Word × Word × Word) :=
  match o with
  | .next s => some (readSlot s 3, s.result0, s.result1)
  | .fault _ => none
  | .refused _ => none

/-- What the host reads at a slot after an outcome. -/
def seenAt (idx : Slot) (o : Host.Outcome State Fault Refusal) : Option Word :=
  match o with
  | .next s => some (readSlot s idx)
  | .fault _ => none
  | .refused _ => none

/-- The request outstanding after an outcome. -/
def asks (o : Host.Outcome State Fault Refusal) : Option (Option TRequest) :=
  match o with
  | .next s => some s.request
  | .fault _ => none
  | .refused _ => none

/-! ## Well-formedness and decoding -/

/-- The one check of WellFormed: `illegal` of a word that spells ENCODE or RECV is ill formed (R104, R105). -/
theorem test_wellformed_refuses_illegal_of_a_legal_word :
    (Instr.illegal 0x00001800#32).wellFormed = false ∧ (Instr.illegal 0x00031F05#32).wellFormed = false := by decide

/-- Words with OP 7 or a reserved bit at each end of its field (R104, 95_test_vectors.md section 2.4). -/
theorem test_wellformed_takes_illegal_words :
    [0x00000007#32, 0x00000008#32, 0x00000080#32, 0x00002000#32, 0x00008000#32, 0x00040000#32, 0x80000002#32].all
      (fun w => (Instr.illegal w).wellFormed) = true := by decide

/-- The words of 95_test_vectors.md section 2.4, written out from R100 to R105. -/
theorem test_decode_command_words :
    ∀ p ∈ [(0x00001800#32, Instr.encode 0x18#5 0#2),
      (0x00031000#32, Instr.encode 0x10#5 3#2),
      (0x00001001#32, Instr.write 0x10#5 0#2),
      (0x00001802#32, Instr.read 0x18#5 0#2),
      (0x00001B03#32, Instr.gread 0x1b#5 0#2),
      (0x00001904#32, Instr.await 0x19#5 0#2),
      (0x00000005#32, Instr.recv 0#5 0#2),
      (0x00031F05#32, Instr.recv 0x1f#5 3#2),
      (0x00000006#32, Instr.flush 0#5 0#2),
      (0x00000007#32, Instr.illegal 0x00000007#32),
      (0x00000008#32, Instr.illegal 0x00000008#32),
      (0x00002000#32, Instr.illegal 0x00002000#32),
      (0x00040000#32, Instr.illegal 0x00040000#32),
      (0x80000002#32, Instr.illegal 0x80000002#32)],
      decodeCmd p.1 = p.2 ∧ encode p.2 = .cmd p.1 := by decide

/-- One byte 1 for each row, written out as continuation, LC, identifier (R92, R310 to R341). -/
theorem test_decode_tx_rows :
    ∀ p ∈ [(0b10100000#8, Instr.tx00 1#2), (0b10000001#8, Instr.tx01 0#2), (0b11100010#8, Instr.tx02 3#2),
      (0b11000011#8, Instr.tx03 2#2), (0b10100100#8, Instr.tx04 1#2), (0b10000101#8, Instr.tx05 0#2),
      (0b11100110#8, Instr.tx06 3#2), (0b11000111#8, Instr.tx07 2#2), (0b10101000#8, Instr.tx08 1#2),
      (0b10001001#8, Instr.tx09 0#2), (0b11101010#8, Instr.tx0a 3#2), (0b11001011#8, Instr.tx0b 2#2),
      (0b10101100#8, Instr.tx0c 1#2), (0b10001101#8, Instr.tx0d 0#2), (0b11101110#8, Instr.tx0e 3#2),
      (0b11001111#8, Instr.tx0f 2#2), (0b10110000#8, Instr.tx10 1#2), (0b10010001#8, Instr.tx11 0#2),
      (0b11110010#8, Instr.tx12 3#2), (0b11010011#8, Instr.tx13 2#2), (0b10110100#8, Instr.tx14 1#2),
      (0b10010101#8, Instr.tx15 0#2), (0b11110110#8, Instr.tx16 3#2), (0b11010111#8, Instr.tx17 2#2),
      (0b10111000#8, Instr.tx18 1#2), (0b10011001#8, Instr.tx19 0#2), (0b11111010#8, Instr.tx1a 3#2),
      (0b11011011#8, Instr.tx1b 2#2), (0b10111100#8, Instr.tx1c 1#2), (0b10011101#8, Instr.tx1d 0#2),
      (0b11111110#8, Instr.tx1e 3#2), (0b11011111#8, Instr.tx1f 2#2)],
      decodeTx p.1 = .ok p.2 ∧ encode p.2 = .tx p.1 := by decide

/-- One byte 1 for each row, written out as continuation, LC, identifier (R92, R200 to R231). -/
theorem test_decode_rx_rows :
    ∀ p ∈ [(0b10100000#8, Instr.rx00 1#2), (0b10000001#8, Instr.rx01 0#2), (0b11100010#8, Instr.rx02 3#2),
      (0b11000011#8, Instr.rx03 2#2), (0b10100100#8, Instr.rx04 1#2), (0b10000101#8, Instr.rx05 0#2),
      (0b11100110#8, Instr.rx06 3#2), (0b11000111#8, Instr.rx07 2#2), (0b10101000#8, Instr.rx08 1#2),
      (0b10001001#8, Instr.rx09 0#2), (0b11101010#8, Instr.rx0a 3#2), (0b11001011#8, Instr.rx0b 2#2),
      (0b10101100#8, Instr.rx0c 1#2), (0b10001101#8, Instr.rx0d 0#2), (0b11101110#8, Instr.rx0e 3#2),
      (0b11001111#8, Instr.rx0f 2#2), (0b10110000#8, Instr.rx10 1#2), (0b10010001#8, Instr.rx11 0#2),
      (0b11110010#8, Instr.rx12 3#2), (0b11010011#8, Instr.rx13 2#2), (0b10110100#8, Instr.rx14 1#2),
      (0b10010101#8, Instr.rx15 0#2), (0b11110110#8, Instr.rx16 3#2), (0b11010111#8, Instr.rx17 2#2),
      (0b10111000#8, Instr.rx18 1#2), (0b10011001#8, Instr.rx19 0#2), (0b11111010#8, Instr.rx1a 3#2),
      (0b11011011#8, Instr.rx1b 2#2), (0b10111100#8, Instr.rx1c 1#2), (0b10011101#8, Instr.rx1d 0#2),
      (0b11111110#8, Instr.rx1e 3#2), (0b11011111#8, Instr.rx1f 2#2)],
      decodeRx p.1 = .ok p.2 ∧ encode p.2 = .rx p.1 := by decide

/-- A byte with bit 7 clear is byte 0 only (R97). -/
theorem test_decode_refuses_a_start_byte :
    ∀ b ∈ [0x00#8, 0x1F#8, 0x7F#8], decodeTx b = .error .startByte ∧ decodeRx b = .error .startByte := by decide

/-- The host's entry: command words by their 32 bits, a continuation byte as RXB1 (log 9). -/
theorem test_decodeTableWord :
    decodeTableWord 32 0x00031000 = some (.encode 0x10#5 3#2) ∧ decodeTableWord 32 7 = some (.illegal 7#32) ∧
      decodeTableWord 8 0x98 = some (.rx18 0#2) := by decide

/-- The word 7 completes with ILLEGAL_CMD (95_test_vectors.md section 2.4); byte 1 0x90 is a Scalar7 frame of value 0 (R216). -/
theorem test_withFetchWord_runs_the_word :
    seen (step (State.reset.withFetchWord 32 7)) = some (0x00000092#32, 0#32, 0#32) ∧
      seen (step (State.reset.withFetchWord 8 0x90)) = some (0x01081102#32, 0#32, 0#32) := by decide

/-! ## Frame Codec and Frame Reader -/

/-- 95_test_vectors.md section 2.1. -/
theorem test_encode_frame :
    encodeFrame 1#5 0x18#5 0#2 [0#7] = [0x01#8, 0x98#8, 0x80#8, 0x99#8] ∧
      encodeFrame 0#5 0x00#5 0#2 [0#7] = [0x00#8, 0x80#8, 0x80#8, 0x80#8] ∧
      encodeFrame 31#5 0x1f#5 3#2 [0x7f#7, 0x7f#7, 0x7f#7, 0x7f#7] = [0x1F#8, 0xFF#8, 0xFF#8, 0xFF#8, 0xFF#8, 0xFF#8, 0x9A#8] ∧
      encodeFrame 5#5 0x01#5 3#2 [1#7, 2#7, 3#7, 4#7] = [0x05#8, 0xE1#8, 0x81#8, 0x82#8, 0x83#8, 0x84#8, 0xF0#8] ∧
      encodeFrame 2#5 0x07#5 2#2 [0x7f#7, 0#7, 0x55#7] = [0x02#8, 0xC7#8, 0xFF#8, 0x80#8, 0xD5#8, 0x9D#8] ∧
      encodeFrame 31#5 0x00#5 0#2 [0x7f#7] = [0x1F#8, 0x80#8, 0xFF#8, 0x9E#8] := by decide

/-- 95_test_vectors.md section 2.1: two compensating errors and swapped bytes pass (R137, R429). -/
theorem test_cks_ok :
    cksOk [0x01#8, 0x90#8, 0xA8#8, 0xB9#8] = true ∧
      cksOk [0x01#8, 0x90#8, 0xA8#8, 0xB8#8] = false ∧
      cksOk [0x01#8, 0x90#8, 0xA9#8, 0xB8#8] = false ∧
      cksOk [0x01#8, 0x91#8, 0xA7#8, 0xB9#8] = true ∧
      cksOk [0x01#8, 0xA8#8, 0x90#8, 0xB9#8] = true := by decide

/-- 95_test_vectors.md section 2.2: hunting, a start byte within a frame, a frame of 7 bytes not complete after 4. -/
theorem test_reader :
    readBytes [] [0x85#8, 0xFF#8, 0x01#8, 0x90#8, 0xA8#8, 0xB9#8] = ([], some (.frame [0x01#8, 0x90#8, 0xA8#8, 0xB9#8]), []) ∧
      readBytes [] [0x01#8, 0x98#8, 0x01#8, 0x90#8, 0xA8#8, 0xB9#8] = ([], some (.frame [0x01#8, 0x90#8, 0xA8#8, 0xB9#8]), []) ∧
      readBytes [] [0x01#8, 0xF8#8, 0x81#8, 0x82#8] = ([0x01#8, 0xF8#8, 0x81#8, 0x82#8], none, []) := by decide

/-! ## The drive-side identifiers -/

/-- 95_test_vectors.md section 2.3: 0x00 to 0x0a and 0x1f; STATUS by R29. -/
theorem test_recv_unallowed :
    ∀ p ∈ [([0x01#8, 0x80#8, 0x80#8, 0x81#8], (0x00080172#32, 0x00000000#32, 0x00000000#32)),
      ([0x01#8, 0x81#8, 0x80#8, 0x82#8], (0x00180172#32, 0x00000000#32, 0x00000000#32)),
      ([0x01#8, 0x82#8, 0x80#8, 0x83#8], (0x00280172#32, 0x00000000#32, 0x00000000#32)),
      ([0x01#8, 0x83#8, 0x80#8, 0x84#8], (0x00380172#32, 0x00000000#32, 0x00000000#32)),
      ([0x01#8, 0x84#8, 0x80#8, 0x85#8], (0x00480172#32, 0x00000000#32, 0x00000000#32)),
      ([0x01#8, 0x85#8, 0x80#8, 0x86#8], (0x00580172#32, 0x00000000#32, 0x00000000#32)),
      ([0x01#8, 0x86#8, 0x80#8, 0x87#8], (0x00680172#32, 0x00000000#32, 0x00000000#32)),
      ([0x01#8, 0x87#8, 0x80#8, 0x88#8], (0x00780172#32, 0x00000000#32, 0x00000000#32)),
      ([0x01#8, 0x88#8, 0x80#8, 0x89#8], (0x00880172#32, 0x00000000#32, 0x00000000#32)),
      ([0x01#8, 0x89#8, 0x80#8, 0x8A#8], (0x00980172#32, 0x00000000#32, 0x00000000#32)),
      ([0x01#8, 0x8A#8, 0x80#8, 0x8B#8], (0x00A80172#32, 0x00000000#32, 0x00000000#32)),
      ([0x01#8, 0x9F#8, 0x80#8, 0xA0#8], (0x01F80172#32, 0x00000000#32, 0x00000000#32))],
      seen (step (recvOf p.1)) = some p.2 := by decide

/-- 95_test_vectors.md section 2.3: 0x0b to 0x0f, 0x1c, 0x1d. -/
theorem test_recv_unknown :
    ∀ p ∈ [([0x01#8, 0x8B#8, 0x80#8, 0x8C#8], (0x00B80182#32, 0x00000000#32, 0x00000000#32)),
      ([0x01#8, 0x8C#8, 0x80#8, 0x8D#8], (0x00C80182#32, 0x00000000#32, 0x00000000#32)),
      ([0x01#8, 0x8D#8, 0x80#8, 0x8E#8], (0x00D80182#32, 0x00000000#32, 0x00000000#32)),
      ([0x01#8, 0x8E#8, 0x80#8, 0x8F#8], (0x00E80182#32, 0x00000000#32, 0x00000000#32)),
      ([0x01#8, 0x8F#8, 0x80#8, 0x90#8], (0x00F80182#32, 0x00000000#32, 0x00000000#32)),
      ([0x01#8, 0x9C#8, 0x80#8, 0x9D#8], (0x01C80182#32, 0x00000000#32, 0x00000000#32)),
      ([0x01#8, 0x9D#8, 0x80#8, 0x9E#8], (0x01D80182#32, 0x00000000#32, 0x00000000#32))],
      seen (step (recvOf p.1)) = some p.2 := by decide

/-- 95_test_vectors.md section 2.3: 0x10 to 0x17. -/
theorem test_recv_scalar :
    ∀ p ∈ [([0x01#8, 0x90#8, 0xA8#8, 0xB9#8], (0x01081102#32, 0x00000028#32, 0x00000000#32)),
      ([0x01#8, 0x91#8, 0xE4#8, 0xF6#8], (0x01181102#32, 0x00000064#32, 0x00000000#32)),
      ([0x01#8, 0x92#8, 0x83#8, 0x96#8], (0x01281102#32, 0x00000003#32, 0x00000000#32)),
      ([0x01#8, 0x93#8, 0xC0#8, 0xD4#8], (0x01381102#32, 0x00000040#32, 0x00000000#32)),
      ([0x01#8, 0x94#8, 0xFF#8, 0x94#8], (0x01481102#32, 0x0000007F#32, 0x00000000#32)),
      ([0x01#8, 0x95#8, 0x80#8, 0x96#8], (0x01581102#32, 0x00000000#32, 0x00000000#32)),
      ([0x01#8, 0x96#8, 0x81#8, 0x98#8], (0x01681102#32, 0x00000001#32, 0x00000000#32)),
      ([0x01#8, 0x97#8, 0x8A#8, 0xA2#8], (0x01781102#32, 0x0000000A#32, 0x00000000#32))],
      seen (step (recvOf p.1)) = some p.2 := by decide

/-- 95_test_vectors.md section 2.3: 0x18 to 0x1b and 0x1e. -/
theorem test_recv_typed :
    ∀ p ∈ [([0x01#8, 0xF8#8, 0x81#8, 0x82#8, 0x83#8, 0x84#8, 0x83#8], (0x01883102#32, 0x00000082#32, 0x00000184#32)),
      ([0x01#8, 0x99#8, 0xA2#8, 0xBC#8], (0x01984102#32, 0x00000023#32, 0x00000022#32)),
      ([0x01#8, 0x9A#8, 0xA5#8, 0xC0#8], (0x01A85102#32, 0x00000025#32, 0x00000025#32)),
      ([0x01#8, 0x9B#8, 0xFF#8, 0x9B#8], (0x01B82102#32, 0xFFFFFFFF#32, 0x00000001#32)),
      ([0x01#8, 0x9E#8, 0xBF#8, 0xDE#8], (0x01E82102#32, 0x0000003F#32, 0x00000001#32))],
      seen (step (recvOf p.1)) = some p.2 := by decide

/-- 95_test_vectors.md section 2.3, corner cases: signs, maxima, reserved codes, wrong length codes. -/
theorem test_recv_corners :
    ∀ p ∈ [([0x01#8, 0xDB#8, 0xFE#8, 0x80#8, 0x81#8, 0xDB#8], (0x01B82102#32, 0xFFFF8001#32, 0x00000003#32)),
      ([0x01#8, 0xFB#8, 0xC0#8, 0x80#8, 0x80#8, 0x80#8, 0xBC#8], (0x01B82102#32, 0xF8000000#32, 0x00000004#32)),
      ([0x01#8, 0xBE#8, 0xFF#8, 0x80#8, 0xBE#8], (0x01E82102#32, 0xFFFFFF80#32, 0x00000002#32)),
      ([0x01#8, 0xF8#8, 0xFF#8, 0xFF#8, 0xFF#8, 0xFF#8, 0xF5#8], (0x01883102#32, 0x00003FFF#32, 0x00003FFF#32)),
      ([0x01#8, 0xD8#8, 0x81#8, 0x82#8, 0x83#8, 0xDF#8], (0x01880142#32, 0x00000000#32, 0x00000000#32)),
      ([0x01#8, 0xB0#8, 0x81#8, 0x82#8, 0xB4#8], (0x01080142#32, 0x00000000#32, 0x00000000#32)),
      ([0x01#8, 0x99#8, 0x9C#8, 0xB6#8], (0x01984102#32, 0x0000009D#32, 0x0000001C#32)),
      ([0x01#8, 0x9A#8, 0x98#8, 0xB3#8], (0x01A85102#32, 0x00000098#32, 0x00000018#32)),
      ([0x01#8, 0xB9#8, 0x80#8, 0x80#8, 0xBA#8], (0x01980142#32, 0x00000000#32, 0x00000000#32))],
      seen (step (recvOf p.1)) = some p.2 := by decide

/-- 95_test_vectors.md section 2.2. -/
theorem test_recv_bad_checksum :
    seen (step (recvOf [0x01#8, 0x90#8, 0xA8#8, 0xB8#8])) = some (0x010A0132#32, 0#32, 0#32) := by decide

/-- R272 worked by hand on STATUS (R29): attempt 1 of 3 retries, BUSY stays; attempt 3 of 3 ends as V3 of 95_test_vectors.md. -/
theorem test_nonmatch_then_exhausted :
    seen (step (inReading .read 0x10#5 0#4 [0x01#8, 0x91#8, 0xE4#8] (bytes [0xF6#8]))) = some (0x011C0101#32, 0#32, 0#32) ∧
      seen (step (inReading .read 0x10#5 2#4 [0x01#8, 0x91#8, 0xE4#8] (bytes [0xF6#8]))) = some (0x011C0362#32, 0#32, 0#32) := by decide

/-- V10 of 95_test_vectors.md section 2.6 (R274). -/
theorem test_matching_wrong_length :
    seen (step (inReading .read 0x18#5 0#4 [0x01#8, 0x98#8, 0x80#8] (bytes [0x99#8]))) = some (0x01880142#32, 0#32, 0#32) := by decide

/-- V8 of 95_test_vectors.md section 2.6. -/
theorem test_read_failure_is_terminal :
    seen (step (inReading .read 0x10#5 0#4 [0x01#8, 0x90#8] [.answer .fail])) = some (0x00000112#32, 0#32, 0#32) := by decide

/-! ## The commands and the host-side identifiers -/

/-- 95_test_vectors.md section 2.4. -/
theorem test_command_words_run :
    ∀ p ∈ [(0x00001800#32, (0x00000002#32, none)),
      (0x00001001#32, (0x00000001#32, some .flush)),
      (0x00001802#32, (0x00000001#32, some .flush)),
      (0x00001002#32, (0x00000052#32, none)),
      (0x00001B03#32, (0x00000001#32, some .flush)),
      (0x00001C03#32, (0x00000052#32, none)),
      (0x00001904#32, (0x00000001#32, some .read1)),
      (0x00000F04#32, (0x00000052#32, none)),
      (0x00031F05#32, (0x00000001#32, some .read1)),
      (0x00000006#32, (0x00000001#32, some .flush)),
      (0x80000002#32, (0x00000092#32, none))],
      seen (exec (decodeCmd p.1) drive1) = some (p.2.1, 0#32, 0#32) ∧ asks (exec (decodeCmd p.1) drive1) = some p.2.2 := by decide

/-- 95_test_vectors.md sections 2.1, 2.5 and 2.6 (V21, V14): the frames in TXF. -/
theorem test_command_frames :
    seenAt 6 (exec (.write 0x10#5 0#2) { drive1 with p0 := 40#7 }) = some 0xB9A89001#32 ∧
      seenAt 6 (exec (.gread 0x1e#5 3#2) drive1) = some 0xAD9E8E01#32 ∧
      seenAt 7 (exec (.encode 0x10#5 3#2) { drive1 with p0 := 1#7, p1 := 2#7, p2 := 3#7, p3 := 4#7 }) =
        some 0x07FB8483#32 := by decide

/-- V21 of 95_test_vectors.md section 2.6. -/
theorem test_write_without_flush :
    asks (exec (.write 0x10#5 0#2) { drive1 with p0 := 40#7, flushOnSend := false }) =
      some (some (.write [0x01#8, 0x90#8, 0xA8#8, 0xB9#8])) := by decide

/-- V1 and V12 of 95_test_vectors.md section 2.6, by the identifier READ carries (R334, R326). -/
theorem test_tx_identifier_under_read :
    asks (exec (.tx18 0#2) { drive1 with op := .read, flushOnSend := false }) =
      some (some (.write [0x01#8, 0x98#8, 0x80#8, 0x99#8])) ∧
      seenAt 3 (exec (.tx10 0#2) { drive1 with op := .read }) = some 0x00000052#32 := by decide

/-- Byte 1 of the frame carries the identifier (R92, R140): no host-side identifier is validated. -/
theorem test_tx_identifier_under_encode :
    ∀ p ∈ [(Instr.tx00 0#2, 0x80#8), (.tx0f 0#2, 0x8F#8), (.tx10 0#2, 0x90#8), (.tx1f 0#2, 0x9F#8)],
      (nextState (exec p.1 { drive1 with op := .encode })).map (fun s => s.txf.getD 1 0) = some p.2 := by decide

/-- V1, V9 and V23 of 95_test_vectors.md section 2.6. -/
theorem test_answers :
    asks (step (inSession .read .flushing [.answer .flushAck])) = some (some (.write [0x01#8, 0x98#8, 0x80#8, 0x99#8])) ∧
      asks (step (inSession .read .writing [.answer (.count 4)])) = some (some .read1) ∧
      seenAt 3 (step (inSession .read .writing [.answer (.count 3)])) = some 0x00000012#32 ∧
      seenAt 3 (step (inSession .flush .flushing [.answer .flushAck])) = some 0x00000002#32 := by decide

/-! ## The host port -/

/-- 95_test_vectors.md section 2.5. -/
theorem test_config_and_payload :
    seenAt 0 (hostWrite 0 0xFFFFFFFF#32 State.reset) = some 0x000F031F#32 ∧
      seenAt 0 (hostWrite 0 0x00000001#32 State.reset) = some 0x00010001#32 ∧
      seenAt 1 (hostWrite 1 0xFFFFFFFF#32 State.reset) = some 0x7F7F7F7F#32 := by decide

/-- 95_test_vectors.md section 2.5. -/
theorem test_overrun :
    seenAt 3 (hostWrite 1 0x55#32 (inReading .recv 0#5 0#4 [] [])) = some 0x40000001#32 ∧
      seenAt 3 (hostWrite 3 0x40000000#32 { inReading .recv 0#5 0#4 [] [] with overrun := true }) = some 0x00000001#32 ∧
      seenAt 3 (hostWrite 10 0x12345678#32 State.reset) = some 0#32 := by decide

/-- R49, R400: CONFIG reads its reset value. -/
theorem test_reset_event :
    seenAt 0 (step (inReading .read 0x10#5 1#4 [0x01#8, 0x90#8] [.reset])) = some 0x00030200#32 := by decide

/-! ## Values that meet the hypotheses of the statements -/

/-- A well-formed instruction of each format. -/
theorem test_witness_DecodeOfEncodeIsTheInstruction :
    (Instr.illegal 0xFFFFFFFF#32).wellFormed = true ∧ (Instr.flush 0x1f#5 3#2).wellFormed = true ∧
      (Instr.tx1f 3#2).wellFormed = true ∧ (Instr.rx00 0#2).wellFormed = true := by decide

/-- A code of each format that decodes. -/
theorem test_witness_EncodeOfDecodeIsTheCode :
    decode (.cmd 0x00031F06#32) = .ok (.flush 0x1f#5 3#2) ∧ decode (.tx 0xFF#8) = .ok (.tx1f 3#2) ∧
      decode (.rx 0x80#8) = .ok (.rx00 0#2) := by decide

/-- Each reserved field at its lowest and highest bit, OP 7, and each legal OP with all operand bits set. -/
theorem test_witness_CommandWordsDecodeByTheirFields :
    (0x00000008#32).extractLsb' 3 5 ≠ 0#5 ∧ (0x00000080#32).extractLsb' 3 5 ≠ 0#5 ∧ (0x00002000#32).extractLsb' 13 3 ≠ 0#3 ∧
      (0x00008000#32).extractLsb' 13 3 ≠ 0#3 ∧ (0x00040000#32).extractLsb' 18 14 ≠ 0#14 ∧ (0x80000000#32).extractLsb' 18 14 ≠ 0#14 ∧ (0x00031F07#32).extractLsb' 0 3 = 7#3 ∧
      0x00031F00#32 &&& 0xFFFCE0FF#32 = 0#32 ∧
      0x00031F01#32 &&& 0xFFFCE0FF#32 = 1#32 ∧
      0x00031F02#32 &&& 0xFFFCE0FF#32 = 2#32 ∧
      0x00031F03#32 &&& 0xFFFCE0FF#32 = 3#32 ∧
      0x00031F04#32 &&& 0xFFFCE0FF#32 = 4#32 ∧
      0x00031F05#32 &&& 0xFFFCE0FF#32 = 5#32 ∧
      0x00031F06#32 &&& 0xFFFCE0FF#32 = 6#32 := by decide

/-- A value list for each length code. -/
theorem test_witness_EncodedFrameBytes :
    ∀ lc : LenCode, (List.replicate (lc.toNat + 1) 0x7f#7).length = lc.toNat + 1 := by decide

/-- A value list for each length code. -/
theorem test_witness_EncodedFramesHaveTheFrameShape :
    ∀ lc : LenCode, (List.replicate (lc.toNat + 1) 0x7f#7).length = lc.toNat + 1 := by decide

/-- A value list for each length code. -/
theorem test_witness_EncodedFrameIsReadBack :
    ∀ lc : LenCode, (List.replicate (lc.toNat + 1) 0x7f#7).length = lc.toNat + 1 := by decide

/-- The shortest and the longest frame. -/
theorem test_witness_ChecksumAcceptsExactlyTheSumModulo128 :
    [0x01#8, 0x90#8, 0xA8#8, 0xB9#8].length = 4 ∧ [0x1F#8, 0xFF#8, 0xFF#8, 0xFF#8, 0xFF#8, 0xFF#8, 0x9A#8].length = 7 := by decide

/-- Two payload bytes swapped. -/
theorem test_witness_ChecksumIgnoresHighBitsAndOrder :
    [0x01#8, 0x90#8, 0xA8#8].Perm [0x01#8, 0xA8#8, 0x90#8] := by decide

/-- A byte and an accumulator for each case. -/
theorem test_witness_ReaderStepCases :
    (0x7F#8).getLsbD 7 = false ∧ (0x80#8).getLsbD 7 = true ∧ ([] : List Byte) = [] ∧ [0x01#8] ≠ [] ∧
      (let a := [0x01#8, 0x90#8, 0xA8#8] ++ [0xB9#8]
       2 ≤ a.length ∧ a.length = 4 + ((a.getD 1 0).extractLsb' 5 2).toNat) ∧
      (let a := [0x01#8] ++ [0x90#8]
       ¬ (2 ≤ a.length ∧ a.length = 4 + ((a.getD 1 0).extractLsb' 5 2).toNat)) := by decide

/-- The empty and the longest partial frame, a byte that completes and one that does not. -/
theorem test_witness_CompletedFramesHaveTheFrameShape :
    AccShape [] ∧ AccShape [0x01#8, 0xF8#8, 0x81#8, 0x82#8, 0x83#8, 0x84#8] ∧
      readerStep [0x01#8, 0xF8#8, 0x81#8, 0x82#8, 0x83#8, 0x84#8] (.byte 0x83#8) = ([], some (.frame [0x01#8, 0xF8#8, 0x81#8, 0x82#8, 0x83#8, 0x84#8, 0x83#8])) ∧
      readerStep [0x01#8, 0xF8#8, 0x81#8, 0x82#8, 0x83#8] (.byte 0x84#8) = ([0x01#8, 0xF8#8, 0x81#8, 0x82#8, 0x83#8, 0x84#8], none) := by decide

/-- Frames of 4 and of 7 bytes. -/
theorem test_witness_ReaderResynchronisesOnAnyStartByte :
    FrameShape [0x01#8, 0x90#8, 0xA8#8, 0xB9#8] ∧ FrameShape [0x1F#8, 0xFF#8, 0xFF#8, 0xFF#8, 0xFF#8, 0xFF#8, 0x9A#8] ∧ 6 < [0x1F#8, 0xFF#8, 0xFF#8, 0xFF#8, 0xFF#8, 0xFF#8, 0x9A#8].length := by decide

/-- Start bytes and continuation bytes, once and then over and over, and a stream that completes no frame. -/
theorem test_witness_StartBytesAloneNeverEndAnAttempt :
    let s := { inReading .recv 0#5 0#4 [] (bytes [0x00#8, 0x7F#8]) with again := bytes [0x01#8] }
    let u := { inReading .read 0x10#5 2#4 [] (bytes [0x80#8]) with again := bytes [0xFF#8] }
    s.ses = .reading ∧ u.ses = .reading ∧ u.acc = [] ∧ [0x01#8] ≠ [] ∧ (∀ x ∈ [0x00#8, 0x7F#8] ++ [0x01#8], isContinuation x = false) ∧
      (∀ x ∈ [0x80#8] ++ [0xFF#8], isContinuation x = true) ∧ s.env = [0x00#8, 0x7F#8].map (fun x => .answer (.byte x)) ∧
      s.again = [0x01#8].map (fun x => .answer (.byte x)) ∧ u.env = [0x80#8].map (fun x => .answer (.byte x)) ∧
      u.again = [0xFF#8].map (fun x => .answer (.byte x)) ∧ (readBytes s.acc [0x00#8, 0x7F#8, 0x01#8, 0x90#8, 0x80#8]).2.1 = none := by decide

/-- An infinite stream that completes no frame: continuation bytes in HUNT. -/
theorem test_witness_stream_that_completes_no_frame :
    (inReading .recv 0#5 0#4 [] []).ses = .reading ∧
      ∀ n, (readBytes (inReading .recv 0#5 0#4 [] []).acc ((List.range n).map fun _ => 0x80#8)).2.1 = none := by
  refine ⟨rfl, fun n => ?_⟩
  simp only [List.map_const', List.length_range]
  induction n with
  | zero => rfl
  | succ n ih => exact ih

/-- A RECV and a whole frame. -/
theorem test_witness_RecvReportsTheFrameItReads :
    let f := [0x01#8, 0x90#8, 0xA8#8, 0xB9#8]
    let s := inReading .recv 0#5 0#4 [] (bytes f ++ [.hostRead 3])
    s.ses = .reading ∧ s.op = .recv ∧ s.resTag = .none ∧ s.result0 = 0 ∧ s.result1 = 0 ∧ FrameShape f ∧
      s.env = f.map (fun x => .answer (.byte x)) ++ [.hostRead 3] := by decide

/-- Payloads of 1 and 4 bytes, and a non-empty one to append to. -/
theorem test_witness_SignedIntegerIsTheSignExtendedPayload :
    1 ≤ [0xFF#8].length ∧ [0x80#8, 0x80#8, 0x80#8, 0x80#8].length ≤ 4 ∧ 7 * [0xFF#8].length ≤ 31 ∧ 7 * [0x80#8, 0x80#8, 0x80#8, 0x80#8].length ≤ 31 ∧ [0xFE#8, 0x80#8] ≠ [] := by decide

/-- Each matching command, an attempt below the bound and one at it. -/
theorem test_witness_NonMatchingFrameIsRetriedOrExhausts :
    (∀ o ∈ [Op.read, .gread, .await], Matching (inReading o 0x10#5 0#4 [] []).op) ∧ (inReading .read 0x10#5 0#4 [] []).expf ≠ 0x11#5 ∧
      (inReading .read 0x10#5 2#4 [] []).attempts < (inReading .read 0x10#5 2#4 [] []).maxAttempts ∧
      ¬ (inReading .read 0x10#5 3#4 [] []).attempts < (inReading .read 0x10#5 3#4 [] []).maxAttempts := by decide

/-- The ends of the ranges, their bytes, RECV, and a matching command. -/
theorem test_witness_UnallowedIdentifiersGiveNoValue :
    (∀ f ∈ [0x00#5, 0x0a#5, 0x1f#5], f.toNat ≤ 0x0a ∨ f.toNat = 0x1f) ∧
      (∀ f ∈ [0x00#5, 0x0a#5, 0x1f#5], (0xE0#8 ||| BitVec.setWidth 8 f) &&& 0x9F#8 = 0x80#8 ||| BitVec.setWidth 8 f) ∧
      (inReading .recv 0#5 0#4 [] []).op = .recv ∧ Matching (inReading .await 0x1e#5 0#4 [] []).op ∧
      verifyFuncId (inReading .await 0x1e#5 0#4 [] []).expf = true := by decide

/-- The ends of the ranges, their bytes, RECV, and a matching command. -/
theorem test_witness_UnknownIdentifiersGiveNoValue :
    (∀ f ∈ [0x0b#5, 0x0f#5, 0x1c#5, 0x1d#5], (0x0b ≤ f.toNat ∧ f.toNat ≤ 0x0f) ∨ f.toNat = 0x1c ∨ f.toNat = 0x1d) ∧
      (∀ f ∈ [0x0b#5, 0x0f#5, 0x1c#5, 0x1d#5], (0xE0#8 ||| BitVec.setWidth 8 f) &&& 0x9F#8 = 0x80#8 ||| BitVec.setWidth 8 f) ∧
      (inReading .recv 0#5 0#4 [] []).op = .recv ∧ Matching (inReading .gread 0x1b#5 0#4 [] []).op ∧
      verifyFuncId (inReading .gread 0x1b#5 0#4 [] []).expf = true := by decide

/-- Both ends of the range, a frame of length code 0, and another length code. -/
theorem test_witness_ScalarFramesDecodeToSevenBits :
    (inReading .recv 0#5 0#4 [] []).op = .recv ∧ Matching (inReading .read 0x17#5 0#4 [] []).op ∧
      (inReading .read 0x17#5 0#4 [] []).expf = 0x17#5 ∧ (∀ f ∈ [0x10#5, 0x17#5], 0x10 ≤ f.toNat ∧ f.toNat ≤ 0x17) ∧
      (0xD7#8) &&& 0x9F#8 = 0x80#8 ||| BitVec.setWidth 8 0x17#5 ∧
      ({ recvOf [0x01#8, 0x90#8, 0xA8#8, 0xB9#8] with rxf := [0x01#8, 0x90#8, 0xA8#8, 0xB9#8] }).rxf = [0x01#8, 0x90#8, 0xA8#8, 0xB9#8] ∧ (1#2 : LenCode) ≠ 0 := by decide

/-- A frame of length code 3, and another length code. -/
theorem test_witness_GearFramesDecodeToPairs :
    (inReading .recv 0#5 0#4 [] []).op = .recv ∧ Matching (inReading .read 0x18#5 0#4 [] []).op ∧
      (inReading .read 0x18#5 0#4 [] []).expf = 0x18#5 ∧ (0xF8#8) &&& 0x9F#8 = 0x98#8 ∧
      ({ State.reset with rxf := [0x01#8, 0xF8#8, 0x81#8, 0x82#8, 0x83#8, 0x84#8, 0x83#8] }).rxf = [0x01#8, 0xF8#8, 0x81#8, 0x82#8, 0x83#8, 0x84#8, 0x83#8] ∧ (2#2 : LenCode) ≠ 3 := by decide

/-- A frame of length code 0, and another length code. -/
theorem test_witness_RecordFramesDecodeToRecords :
    (inReading .recv 0#5 0#4 [] []).op = .recv ∧ Matching (inReading .read 0x1a#5 0#4 [] []).op ∧
      (inReading .read 0x1a#5 0#4 [] []).expf = 0x1a#5 ∧ (inReading .await 0x19#5 0#4 [] []).expf = 0x19#5 ∧
      (0xF9#8) &&& 0x9F#8 = 0x99#8 ∧ (0x9A#8) &&& 0x9F#8 = 0x9A#8 ∧
      ({ State.reset with rxf := [0x01#8, 0x99#8, 0xA2#8, 0xBC#8] }).rxf = [0x01#8, 0x99#8, 0xA2#8, 0xBC#8] ∧ (3#2 : LenCode) ≠ 0 := by decide

/-- Length codes 0 and 3. -/
theorem test_witness_SignedFramesDecodeToIntegers :
    (inReading .recv 0#5 0#4 [] []).op = .recv ∧ Matching (inReading .read 0x1e#5 0#4 [] []).op ∧
      (inReading .read 0x1e#5 0#4 [] []).expf = 0x1e#5 ∧ (inReading .gread 0x1b#5 0#4 [] []).expf = 0x1b#5 ∧
      [0xFF#8].length = (0#2).toNat + 1 ∧ [0xC0#8, 0x80#8, 0x80#8, 0x80#8].length = (3#2).toNat + 1 ∧
      ({ State.reset with rxf := [0x01#8, 0x9B#8, 0xFF#8, 0x9B#8] }).rxf = 0x01#8 :: 0x9B#8 :: [0xFF#8] ++ [0x9B#8] ∧
      (0xFB#8) &&& 0x9F#8 = 0x9B#8 ∧ (0xBE#8) &&& 0x9F#8 = 0x9E#8 := by decide

/-- ENCODE, and WRITE with and without the flush. -/
theorem test_witness_HostIdentifiersUnderEncodeAndWrite :
    ({ drive1 with op := .encode }).op = .encode ∧ ({ drive1 with op := .write }).op = .write ∧
      ({ drive1 with op := .write }).flushOnSend = true ∧ ({ drive1 with op := .write, flushOnSend := false }).flushOnSend = false := by decide

/-- An identifier without an entry and one with. -/
theorem test_witness_HostIdentifiersUnderRead :
    ({ drive1 with op := .read }).op = .read ∧ ({ drive1 with op := .read }).hostMap[(0x17#5).toFin] = none ∧
      ({ drive1 with op := .read }).hostMap[(0x18#5).toFin] = some 0x10#5 := by decide

/-- A latched GREAD. -/
theorem test_witness_HostIdentifiersUnderGeneralRead :
    ({ drive1 with op := .gread }).op = .gread := by decide

/-- An idle block at drive 1 with payload 0. -/
theorem test_witness_EncodeCommandBuildsItsFrame :
    drive1.busy = false ∧ drive1.driveAddr = 1#5 ∧ readSlot drive1 1 = 0 ∧ 0x00031F00#32 &&& 0xFFFCE0FF#32 = 0x00000000#32 := by decide

/-- A WRITE with its answers, with and without the flush. -/
theorem test_witness_WriteCommandSendsItsFrame :
    let s := { drive1 with env := [.hostWrite 2 (cmdWord 1#3 0x10#5 0#2), .answer .flushAck, .answer (.count 4)] }
    let u := { drive1 with flushOnSend := false, env := [.hostWrite 2 (cmdWord 1#3 0x10#5 0#2), .answer (.count 4)] }
    s.busy = false ∧ u.busy = false ∧ 0x00031F01#32 &&& 0xFFFCE0FF#32 = 0x00000001#32 ∧
      s.env = .hostWrite 2 (cmdWord 1#3 0x10#5 0#2) ::
        ((if s.flushOnSend = true then [.answer .flushAck] else []) ++ .answer (.count 4) :: []) ∧
      u.env = .hostWrite 2 (cmdWord 1#3 0x10#5 0#2) ::
        ((if u.flushOnSend = true then [.answer .flushAck] else []) ++ .answer (.count 4) :: []) := by decide

/-- An identifier without an entry and one with. -/
theorem test_witness_ReadCommandRequestsItsMappedReply :
    drive1.busy = false ∧ drive1.hostMap[(0x10#5).toFin] = none ∧ drive1.hostMap[(0x1f#5).toFin] = some 0x18#5 := by decide

/-- Identifiers at the ends of the guard set and beside them. -/
theorem test_witness_GreadCommandRequestsAGuardedIdentifier :
    drive1.busy = false ∧ (∀ g ∈ [0x0f#5, 0x1c#5, 0x1d#5, 0x1f#5], ¬ ((0x10 ≤ g.toNat ∧ g.toNat ≤ 0x1b) ∨ g.toNat = 0x1e)) ∧
      ∀ g ∈ [0x10#5, 0x1b#5, 0x1e#5], (0x10 ≤ g.toNat ∧ g.toNat ≤ 0x1b) ∨ g.toNat = 0x1e := by decide

/-- Identifiers at the ends of the guard set and beside them. -/
theorem test_witness_AwaitAndRecvBeginAnAttempt :
    drive1.busy = false ∧ (∀ g ∈ [0x0f#5, 0x1c#5, 0x1d#5, 0x1f#5], ¬ ((0x10 ≤ g.toNat ∧ g.toNat ≤ 0x1b) ∨ g.toNat = 0x1e)) ∧
      ∀ g ∈ [0x10#5, 0x1b#5, 0x1e#5], (0x10 ≤ g.toNat ∧ g.toNat ≤ 0x1b) ∨ g.toNat = 0x1e := by decide

/-- A FLUSH with its answer. -/
theorem test_witness_FlushCommandRuns :
    let s := { drive1 with env := [.hostWrite 2 (cmdWord 6#3 0x1f#5 3#2), .answer .flushAck] }
    s.busy = false ∧ s.overrun = false ∧ 0x00031F06#32 &&& 0xFFFCE0FF#32 = 0x00000006#32 ∧
      s.env = .hostWrite 2 (cmdWord 6#3 0x1f#5 3#2) :: .answer .flushAck :: [] := by decide

/-- An illegal word of each kind. -/
theorem test_witness_IllegalWordCompletesWithItsError :
    drive1.busy = false ∧ drive1.overrun = false ∧ (inReading .recv 0#5 0#4 [] []).busy = true ∧ (7#32).extractLsb' 0 3 = 7#3 ∧
      (0x00000008#32).extractLsb' 3 5 ≠ 0#5 ∧ (0x00008000#32).extractLsb' 13 3 ≠ 0#3 ∧ (0x80000002#32).extractLsb' 18 14 ≠ 0#14 := by decide

/-- A command in progress; the first and the last slot that ignores writes. -/
theorem test_witness_WritesWhileBusyAreDropped :
    (inReading .recv 0#5 0#4 [] []).busy = true ∧ (∀ idx ∈ [(4 : Slot), 15], 4 ≤ idx.toNat) := by decide

/-- A host write to COMMAND. -/
theorem test_witness_StepRunsTheWrittenCommand :
    ({ drive1 with env := [.hostWrite 2 5#32] }).pending = .hostWrite 2 5#32 :: [] := by decide

/-- A byte that completes a valid frame. -/
theorem test_witness_StepRunsTheInboundIdentifier :
    let f := [0x01#8, 0x90#8, 0xA8#8, 0xB9#8]
    let s := recvOf f
    s.ses = .reading ∧ s.pending = .answer (.byte 0xB9#8) :: [] ∧ readerStep s.acc (.byte 0xB9#8) = ([], some (.frame f)) ∧
      cksOk f = true ∧ decodeRx (f.getD 1 0) = .ok (.rx10 0#2) := by decide

/-- An idle block, and identifiers at the ends of the guard set. -/
theorem test_witness_CommandsRunTheirOutboundIdentifier :
    drive1.busy = false ∧ ∀ g ∈ [0x10#5, 0x1b#5, 0x1e#5], (0x10 ≤ g.toNat ∧ g.toNat ≤ 0x1b) ∨ g.toNat = 0x1e := by decide

/-- A state for each clause. -/
theorem test_witness_FlushAndWriteAnswersAdvanceTheSend :
      (let s := inSession .flush .flushing [.answer .flushAck]
       s.ses = .flushing ∧ s.pending = .answer .flushAck :: [] ∧ s.op = .flush) ∧
      (let s := inSession .read .flushing [.answer .flushAck]
       s.ses = .flushing ∧ s.pending = .answer .flushAck :: [] ∧ s.op ≠ .flush) ∧
      (let s := inSession .write .writing [.answer (.count 4)]
       s.ses = .writing ∧ s.pending = .answer (.count 4) :: [] ∧ 4 = s.txf.length ∧ s.op = .write ∧ 3 ≠ s.txf.length) ∧
      (let s := inSession .gread .writing [.answer (.count 4)]
       s.ses = .writing ∧ s.pending = .answer (.count 4) :: [] ∧ 4 = s.txf.length ∧ s.op ≠ .write) := by decide

/-- A RECV and matching commands, with each kind of answer. -/
theorem test_witness_ReadingFollowsTheSpecsPseudocode :
      (let s := recvOf [0x01#8, 0x90#8, 0xA8#8, 0xB9#8]
       s.ses = .reading ∧ s.op = .recv ∧ s.pending = .answer (.byte 0xB9#8) :: []) ∧
      (let s := inReading .await 0x1e#5 2#4 [] [.answer .timeout]
       s.ses = .reading ∧ verifyFuncId s.expf = true ∧ s.pending = .answer .timeout :: []) ∧
      (let s := inReading .read 0x10#5 0#4 [] [.answer .fail]
       s.ses = .reading ∧ verifyFuncId s.expf = true ∧ s.pending = .answer .fail :: []) := by decide

/-- A timeout in READING. -/
theorem test_witness_RetriesNeverResend :
    let s := inReading .read 0x10#5 0#4 [] [.answer .timeout]
    s.ses = .reading ∧ s.pending = .answer .timeout :: [] ∧ (nextState (step s)).isSome = true := by decide

/-- A write to COMMAND while busy. -/
theorem test_witness_HostAccessesNeverMoveABusySession :
    let s := inReading .read 0x10#5 0#4 [] [.hostWrite 2 5#32]
    s.busy = true ∧ s.pending = .hostWrite 2 5#32 :: [] ∧ (nextState (step s)).isSome = true := by decide

/-- A byte with no request outstanding, a read answer to a write. -/
theorem test_witness_AnswersThatDoNotFitAreDropped :
      (let s := { drive1 with env := [.answer (.byte 0x01#8)] }
       s.pending = .answer (.byte 0x01#8) :: [] ∧ s.request = none) ∧
      (let s := inSession .read .writing [.answer .timeout]
       s.pending = .answer .timeout :: [] ∧ s.request = some (.write s.txf)) := by decide

/-- One attempt left, and the largest budget. -/
theorem test_witness_TimeoutsExhaustTheBudget :
      (let s := inReading .read 0x10#5 2#4 [] (List.replicate 1 (.answer .timeout) ++ [])
       s.ses = .reading ∧ Matching s.op ∧ s.busy = true ∧ s.done = false ∧ s.attempts.toNat + 1 = s.maxAttempts.toNat ∧
         s.env = List.replicate 1 (.answer .timeout) ++ []) ∧
      (let s := { inReading .await 0x1e#5 0#4 [] (List.replicate 15 (.answer .timeout) ++ []) with maxAttempts := 15#4 }
       s.ses = .reading ∧ Matching s.op ∧ s.busy = true ∧ s.done = false ∧ s.attempts.toNat + 15 = s.maxAttempts.toNat ∧
         s.env = List.replicate 15 (.answer .timeout) ++ []) := by decide

/-- The script of E7 of 95_test_vectors.md, with either third frame. -/
theorem test_witness_ThirdAttemptDecidesAReadOfThree :
    let f1 := [0x01#8, 0x91#8, 0xE4#8, 0xF6#8]
    let f2 := [0x01#8, 0x92#8, 0x83#8, 0x96#8]
    let f3 := [0x01#8, 0x90#8, 0xA8#8, 0xB9#8]
    let s := inReading .read 0x10#5 0#4 [] (bytes (f1 ++ f2 ++ f3) ++ [])
    s.ses = .reading ∧ Matching s.op ∧ s.busy = true ∧ s.maxAttempts = 3 ∧ s.attempts = 0 ∧ verifyFuncId s.expf = true ∧
      s.resTag = .none ∧ FrameShape f1 ∧ FrameShape f2 ∧ FrameShape f3 ∧ cksOk f1 = true ∧ cksOk f2 = true ∧ cksOk f3 = true ∧
      identOf (f1.getD 1 0) ≠ s.expf ∧ identOf (f2.getD 1 0) ≠ s.expf ∧ identOf (f3.getD 1 0) = s.expf ∧
      s.env = (f1 ++ f2 ++ f3).map (fun x => .answer (.byte x)) ++ [] ∧
      specDecode f3 = .value ⟨.scalar7, 0x28#32, 0#32⟩ ∧ FrameShape [0x01#8, 0x93#8, 0xC0#8, 0xD4#8] ∧ cksOk [0x01#8, 0x93#8, 0xC0#8, 0xD4#8] = true ∧
      identOf (([0x01#8, 0x93#8, 0xC0#8, 0xD4#8]).getD 1 0) ≠ s.expf := by decide

/-- A step that writes a result. -/
theorem test_witness_ResultsComeOnlyFromValidTypedFrames :
    (recvOf [0x01#8, 0x90#8, 0xA8#8, 0xB9#8]).resTag = .none ∧
      (nextState (step (recvOf [0x01#8, 0x90#8, 0xA8#8, 0xB9#8]))).map State.resTag = some .scalar7 := by decide

/-- A step that observes each kind of frame, and one with DEBUG off. -/
theorem test_witness_ObservationOnlyInDebug :
    (nextState (step { recvOf [0x01#8, 0x90#8, 0xA8#8, 0xB9#8] with debug := true })).map State.obs = some [ObsRecord.mk .rx [0x01#8, 0x90#8, 0xA8#8, 0xB9#8]] ∧
      drive1.debug = false ∧ (nextState (step drive1)).isSome = true ∧
      (let s := { inSession .write .flushing [.answer .flushAck] with debug := true }
       SessionInv s ∧ s.ses ≠ .writing ∧ (nextState (step s)).map State.ses = some .writing) ∧
      (let s := { recvOf [0x01#8, 0x90#8, 0xA8#8, 0xB9#8] with debug := true }
       s.ses = .reading ∧ s.pending = .answer (.byte 0xB9#8) :: [] ∧
         readerStep s.acc (.byte 0xB9#8) = ([], some (.frame [0x01#8, 0x90#8, 0xA8#8, 0xB9#8]))) := by decide

/-- Idle and busy, and the ends of the slot ranges. -/
theorem test_witness_HostWritesBySlot :
    drive1.busy = false ∧ (inReading .recv 0#5 0#4 [] []).busy = true ∧ 4 ≤ (4 : Slot).toNat ∧ 4 ≤ (15 : Slot).toNat ∧
      0xA ≤ (10 : Slot).toNat ∧ 0xA ≤ (15 : Slot).toNat := by decide

/-- Writes that are not dropped. -/
theorem test_witness_ConfigAndPayloadReadBack :
    drive1.busy = false ∧ (nextState (hostWrite 0 0#32 drive1)).isSome = true ∧
      (nextState (hostWrite 1 0xFFFFFFFF#32 drive1)).isSome = true := by decide

/-- Two reads of STATUS in a row. -/
theorem test_witness_HostReadsHaveNoSideEffects :
    ({ drive1 with env := [.hostRead 3, .hostRead 3] }).pending = .hostRead 3 :: [.hostRead 3] := by decide

/-- Buffers with a frame and without, and the ends of the lane ranges. -/
theorem test_witness_FrameRegistersShowTheirBuffers :
    (inSession .read .writing []).txf.length < 256 ∧ drive1.rxf.length < 256 ∧ 0 < 4 ∧ 3 < 4 ∧ 4 ≤ 4 ∧ 6 < 7 := by decide

/-- An idle block. -/
theorem test_witness_CommandStartClearsTheLastStatus :
    drive1.busy = false := by decide

/-- An error code. -/
theorem test_witness_CompletionIsFinish :
    ErrCode.illegalCmd ≠ .ok := by decide

/-- A reset while a write is outstanding. -/
theorem test_witness_ResetPutsEveryElementAtItsResetValue :
    ({ inSession .read .writing [.reset] with p0 := 1#7 }).pending = .reset :: [] := by decide

/-- A READ one byte before its reply is complete. -/
theorem test_witness_EveryStepKeepsTheInvariant :
    Inv (inReading .read 0x10#5 0#4 [0x01#8, 0x90#8, 0xA8#8] (bytes [0xB9#8])) ∧
      (nextState (step (inReading .read 0x10#5 0#4 [0x01#8, 0x90#8, 0xA8#8] (bytes [0xB9#8])))).isSome = true := by
  refine ⟨⟨by decide, by decide, by decide, by decide, ?_, by decide⟩, by decide⟩
  exact ident_cases (P := fun h => (State.reset.hostMap[h.toFin]).all verifyFuncId = true) (by decide)

end Sys2Proof.Machine
end

/-! The host register port, slot by slot (R21, R60 to R64), and the obligations about it. -/

namespace Sys2Proof.Machine

/-! ## What a read of each slot returns -/

@[simp] theorem readSlot_config (s : State) : readSlot s 0 = configWord s := rfl
@[simp] theorem readSlot_payload (s : State) : readSlot s 1 = payloadWord s := rfl
@[simp] theorem readSlot_command (s : State) : readSlot s 2 = 0 := rfl
@[simp] theorem readSlot_status (s : State) : readSlot s 3 = statusWord s := rfl
@[simp] theorem readSlot_result0 (s : State) : readSlot s 4 = s.result0 := rfl
@[simp] theorem readSlot_result1 (s : State) : readSlot s 5 = s.result1 := rfl
@[simp] theorem readSlot_txfLo (s : State) : readSlot s 6 = frameLo s.txf := rfl
@[simp] theorem readSlot_txfHi (s : State) : readSlot s 7 = frameHi s.txf := rfl
@[simp] theorem readSlot_rxfLo (s : State) : readSlot s 8 = frameLo s.rxf := rfl
@[simp] theorem readSlot_rxfHi (s : State) : readSlot s 9 = frameHi s.rxf := rfl

/-- A slot shows only registers: the environment and the value last returned to the host do not count. -/
@[simp] theorem readSlot_env_rdata (s : State) (env : List Event) (r : Word) (idx : Slot) :
    readSlot { s with env := env, rdata := r } idx = readSlot s idx := rfl

/-- An unmapped slot reads 0 (R62). -/
theorem readSlot_unmapped (s : State) {idx : Slot} (h : 0xA ≤ idx.toNat) : readSlot s idx = 0 := by
  unfold readSlot
  split
  any_goals omega
  rfl

/-! ## What a write to each slot does -/

@[simp] theorem hostWrite_config (v : Word) (s : State) : hostWrite 0 v s = .next (writeConfig v s) := rfl
@[simp] theorem hostWrite_payload (v : Word) (s : State) : hostWrite 1 v s = .next (writePayload v s) := rfl
@[simp] theorem hostWrite_command (v : Word) (s : State) : hostWrite 2 v s = exec (decodeCmd v) s := rfl
@[simp] theorem hostWrite_status (v : Word) (s : State) : hostWrite 3 v s = .next (writeStatus v s) := rfl

/-- A write to a read-only or an unmapped slot is ignored (R62, R64). -/
theorem hostWrite_ignored (v : Word) (s : State) {idx : Slot} (h : 4 ≤ idx.toNat) : hostWrite idx v s = .next s := by
  unfold hostWrite
  split
  any_goals omega
  rfl

theorem writeConfig_idle {s : State} (v : Word) (h : s.busy = false) : writeConfig v s = setConfig s v := by
  simp [writeConfig, h]

theorem writeConfig_busy {s : State} (v : Word) (h : s.busy = true) : writeConfig v s = dropWrite s := if_pos h

theorem writePayload_idle {s : State} (v : Word) (h : s.busy = false) : writePayload v s = setPayload s v := by
  simp [writePayload, h]

theorem writePayload_busy {s : State} (v : Word) (h : s.busy = true) : writePayload v s = dropWrite s := if_pos h

/-- Every command word, legal or not, runs as one command start (R260). -/
theorem exec_decodeCmd_eq_startCommand (w : Word) : ∃ k, ∀ s : State, exec (decodeCmd w) s = startCommand s k := by
  rcases decodeCmd_cases w with
    ⟨f, lc, hw⟩ | ⟨f, lc, hw⟩ | ⟨f, lc, hw⟩ | ⟨f, lc, hw⟩ | ⟨f, lc, hw⟩ | ⟨f, lc, hw⟩ | ⟨f, lc, hw⟩ | hw <;> rw [hw]
  · exact ⟨_, exec_encode f lc⟩
  · exact ⟨_, exec_write f lc⟩
  · exact ⟨_, exec_read f lc⟩
  · exact ⟨_, exec_gread f lc⟩
  · exact ⟨_, exec_await f lc⟩
  · exact ⟨_, exec_recv f lc⟩
  · exact ⟨_, exec_flush f lc⟩
  · exact ⟨_, exec_illegal w⟩

/-- Whatever word is written to COMMAND while busy, illegal words included, the write is dropped (R420). -/
theorem exec_decodeCmd_busy {s : State} (w : Word) (h : s.busy = true) :
    exec (decodeCmd w) s = .next (dropWrite s) := by
  obtain ⟨k, hk⟩ := exec_decodeCmd_eq_startCommand w
  rw [hk, startCommand_busy k h]

/-- A write to STATUS clears OVERRUN with bit 30 and changes nothing else (R64). -/
theorem writeStatus_eq (v : Word) (s : State) :
    writeStatus v s = { s with overrun := if v.getLsbD 30 = true then false else s.overrun } := by
  unfold writeStatus
  cases v.getLsbD 30 <;> simp

/-- Settles O50, slot by slot from the laws of the host port. -/
theorem hostWritesBySlot : Obligations.HostWritesBySlot := by
  intro s v
  refine ⟨fun hidle => ⟨?config, ?payload, hostWrite_command v s⟩,
    fun hbusy => ⟨?configBusy, ?payloadBusy, ?commandBusy⟩, ?status, fun idx => ⟨hostWrite_ignored v s, readSlot_unmapped s⟩⟩
  case config => rw [hostWrite_config, writeConfig_idle v hidle]; rfl
  case payload => rw [hostWrite_payload, writePayload_idle v hidle]; rfl
  case configBusy => rw [hostWrite_config, writeConfig_busy v hbusy]; rfl
  case payloadBusy => rw [hostWrite_payload, writePayload_busy v hbusy]; rfl
  case commandBusy => exact exec_decodeCmd_busy v hbusy
  case status => rw [hostWrite_status, writeStatus_eq]

/-! ## Host reads -/

/-- A step that takes a host read returns the slot's value and changes no register (R63). -/
theorem step_hostRead {s : State} {idx : Slot} {rest : List Event} (h : s.pending = .hostRead idx :: rest) :
    step s = .next { s with env := rest, rdata := readSlot s idx } := step_pending h

/-- Settles O52: the second read sees the registers the first one left as they were. -/
theorem hostReadsHaveNoSideEffects : Obligations.HostReadsHaveNoSideEffects := by
  intro s idx rest hfirst
  refine ⟨step_hostRead hfirst, readSlot_command s, ?_⟩
  rintro rest' rfl
  have hsecond :
      step { s with env := .hostRead idx :: rest', rdata := readSlot s idx } =
        .next { s with env := rest', rdata := readSlot s idx } := by
    simpa only [readSlot_env_rdata] using
      step_hostRead (s := { s with env := .hostRead idx :: rest', rdata := readSlot s idx }) (pending_cons rfl)
  calc Sys2Proof.core.run 2 s
    _ = Sys2Proof.core.run 1 { s with env := .hostRead idx :: rest', rdata := readSlot s idx } :=
        run_succ 1 (step_hostRead hfirst)
    _ = Sys2Proof.core.run 0 { s with env := rest', rdata := readSlot s idx } := run_succ 0 hsecond
    _ = .next { s with env := rest', rdata := readSlot s idx } := rfl

/-! ## The byte lanes of the frame registers -/

/-- Lane i + 1 of bits extended below by a byte is lane i of those bits. -/
theorem extractLsb'_append_byte {n : Nat} (x : BitVec n) (b : Byte) (i : Nat) :
    (x ++ b).extractLsb' (8 * (i + 1)) 8 = x.extractLsb' (8 * i) 8 := by
  rw [BitVec.extractLsb'_append_eq_of_le (by omega), Nat.mul_succ, Nat.add_sub_cancel]

/-- Lane i of a word put together from four bytes is byte i, the rightmost being byte 0. -/
theorem extractLsb'_lanes (b0 b1 b2 b3 : Byte) {i : Nat} (hi : i < 4) :
    (b3 ++ b2 ++ b1 ++ b0).extractLsb' (8 * i) 8 = [b0, b1, b2, b3].getD i 0 := by
  match i, hi with
  | 0, _ => exact BitVec.extractLsb'_append_eq_right
  | 1, _ =>
    rw [extractLsb'_append_byte]
    exact BitVec.extractLsb'_append_eq_right
  | 2, _ =>
    rw [extractLsb'_append_byte, extractLsb'_append_byte]
    exact BitVec.extractLsb'_append_eq_right
  | 3, _ =>
    rw [extractLsb'_append_byte, extractLsb'_append_byte, extractLsb'_append_byte]
    exact BitVec.extractLsb'_eq_self

/-- Bytes 0 to 3 of a frame are the lanes of its LO register, 0 beyond its length (R69). -/
theorem frameLo_lane (f : List Byte) {i : Nat} (hi : i < 4) : (frameLo f).extractLsb' (8 * i) 8 = f.getD i 0 := by
  rw [frameLo, extractLsb'_lanes _ _ _ _ hi]
  interval_cases i <;> rfl

/-- Bytes 4 to 6 of a frame are the lanes of its HI register, 0 beyond its length (R69). -/
theorem frameHi_lane (f : List Byte) {i : Nat} (hlo : 4 ≤ i) (hhi : i < 7) :
    (frameHi f).extractLsb' (8 * (i - 4)) 8 = f.getD i 0 := by
  rw [frameHi, extractLsb'_lanes _ _ _ _ (by omega)]
  interval_cases i <;> rfl

/-- The top lane of the HI register is the frame's length (R38, R39). -/
theorem frameHi_length {f : List Byte} (hf : f.length < 256) : ((frameHi f).extractLsb' 24 8).toNat = f.length := by
  have hlane : (frameHi f).extractLsb' (8 * 3) 8 = BitVec.ofNat 8 f.length :=
    extractLsb'_lanes _ _ _ _ (by omega)
  rw [hlane, BitVec.toNat_ofNat, Nat.mod_eq_of_lt hf]

/-- Settles O54, from the lanes of a frame's two registers. -/
theorem frameRegistersShowTheirBuffers : Obligations.FrameRegistersShowTheirBuffers := by
  intro s
  refine ⟨fun i hi => ⟨?_, ?_⟩, fun i hlo hhi => ⟨?_, ?_⟩, ?_, ?_, readSlot_result0 s, readSlot_result1 s⟩
  · exact frameLo_lane s.txf hi
  · exact frameLo_lane s.rxf hi
  · exact frameHi_lane s.txf hlo hhi
  · exact frameHi_lane s.rxf hlo hhi
  · exact frameHi_length
  · exact frameHi_length

end Sys2Proof.Machine

/-! The command word and byte 1 of a frame as their fields (R92, R100, R105), and the obligations about them. -/

namespace Sys2Proof

/-! ## The fields of a command word

Each field is reached by dropping the fields to its right. -/

@[simp] theorem cmdWord_op (op : BitVec 3) (func : Ident) (lc : LenCode) :
    (cmdWord op func lc).extractLsb' 0 3 = op := BitVec.extractLsb'_append_eq_right

@[simp] theorem cmdWord_func (op : BitVec 3) (func : Ident) (lc : LenCode) :
    (cmdWord op func lc).extractLsb' 8 5 = func := by
  rw [cmdWord]
  iterate 2 rw [BitVec.extractLsb'_append_eq_of_le (by decide)]
  exact BitVec.extractLsb'_append_eq_right

@[simp] theorem cmdWord_lc (op : BitVec 3) (func : Ident) (lc : LenCode) :
    (cmdWord op func lc).extractLsb' 16 2 = lc := by
  rw [cmdWord]
  iterate 4 rw [BitVec.extractLsb'_append_eq_of_le (by decide)]
  exact BitVec.extractLsb'_append_eq_right

@[simp] theorem cmdWord_reserved_7_3 (op : BitVec 3) (func : Ident) (lc : LenCode) :
    (cmdWord op func lc).extractLsb' 3 5 = 0#5 := by
  rw [cmdWord, BitVec.extractLsb'_append_eq_of_le (by decide)]
  exact BitVec.extractLsb'_append_eq_right

@[simp] theorem cmdWord_reserved_15_13 (op : BitVec 3) (func : Ident) (lc : LenCode) :
    (cmdWord op func lc).extractLsb' 13 3 = 0#3 := by
  rw [cmdWord]
  iterate 3 rw [BitVec.extractLsb'_append_eq_of_le (by decide)]
  exact BitVec.extractLsb'_append_eq_right

@[simp] theorem cmdWord_reserved_31_18 (op : BitVec 3) (func : Ident) (lc : LenCode) :
    (cmdWord op func lc).extractLsb' 18 14 = 0#14 := by
  rw [cmdWord]
  iterate 4 rw [BitVec.extractLsb'_append_eq_of_le (by decide)]
  exact BitVec.extractLsb'_append_eq_left

/-- A word whose reserved bits are 0 is the command word of its fields (R100). -/
theorem eq_cmdWord_of_reserved_eq_zero {w : Word} (h73 : w.extractLsb' 3 5 = 0#5) (h1513 : w.extractLsb' 13 3 = 0#3)
    (h3118 : w.extractLsb' 18 14 = 0#14) :
    w = cmdWord (w.extractLsb' 0 3) (w.extractLsb' 8 5) (w.extractLsb' 16 2) := by
  rw [cmdWord, ← h73, ← h1513, ← h3118]
  iterate 5 rw [BitVec.extractLsb'_append_extractLsb'_eq_extractLsb' (by decide)]
  exact BitVec.extractLsb'_eq_self.symm

/-- A field on which a mask is all ones is the same under the mask. -/
theorem extractLsb'_and_of_allOnes {n : Nat} (x : BitVec n) {m : BitVec n} {i k : Nat}
    (hm : m.extractLsb' i k = BitVec.allOnes k) : (x &&& m).extractLsb' i k = x.extractLsb' i k := by
  rw [BitVec.extractLsb'_and, hm, BitVec.and_allOnes]

/-- A word that is OP under the mask of the legal rows is the command word of OP and its operand fields (R105). -/
theorem eq_cmdWord_of_masked {w : Word} (op : BitVec 3) (h : w &&& 0xFFFCE0FF#32 = op.setWidth 32) :
    w = cmdWord op (w.extractLsb' 8 5) (w.extractLsb' 16 2) := by
  rw [← Laws.cmdWord_masked op 0#5 0#2] at h
  have field {i k : Nat} (hm : (0xFFFCE0FF#32).extractLsb' i k = BitVec.allOnes k) :
      w.extractLsb' i k = (cmdWord op 0#5 0#2).extractLsb' i k := by
    rw [← extractLsb'_and_of_allOnes w hm, h, extractLsb'_and_of_allOnes _ hm]
  have hop : w.extractLsb' 0 3 = op := (field (by decide)).trans (cmdWord_op ..)
  have hw := eq_cmdWord_of_reserved_eq_zero
    ((field (by decide)).trans (cmdWord_reserved_7_3 ..))
    ((field (by decide)).trans (cmdWord_reserved_15_13 ..))
    ((field (by decide)).trans (cmdWord_reserved_31_18 ..))
  rwa [hop] at hw

/-! ## The decoder on command words -/

section
variable (func : Ident) (lc : LenCode)

@[simp] theorem decodeCmd_cmdWord_encode : decodeCmd (cmdWord 0#3 func lc) = .encode func lc := by simp [decodeCmd]
@[simp] theorem decodeCmd_cmdWord_write : decodeCmd (cmdWord 1#3 func lc) = .write func lc := by simp [decodeCmd]
@[simp] theorem decodeCmd_cmdWord_read : decodeCmd (cmdWord 2#3 func lc) = .read func lc := by simp [decodeCmd]
@[simp] theorem decodeCmd_cmdWord_gread : decodeCmd (cmdWord 3#3 func lc) = .gread func lc := by simp [decodeCmd]
@[simp] theorem decodeCmd_cmdWord_await : decodeCmd (cmdWord 4#3 func lc) = .await func lc := by simp [decodeCmd]
@[simp] theorem decodeCmd_cmdWord_recv : decodeCmd (cmdWord 5#3 func lc) = .recv func lc := by simp [decodeCmd]
@[simp] theorem decodeCmd_cmdWord_flush : decodeCmd (cmdWord 6#3 func lc) = .flush func lc := by simp [decodeCmd]

end

/-- A word with a reserved bit set spells no command (R104). -/
theorem decodeCmd_of_reserved {w : Word}
    (h : w.extractLsb' 3 5 ≠ 0 ∨ w.extractLsb' 13 3 ≠ 0 ∨ w.extractLsb' 18 14 ≠ 0) : decodeCmd w = .illegal w :=
  if_pos (by simpa [or_assoc] using h)

/-- A word of OP 7 spells no command (R104). -/
theorem decodeCmd_of_op_seven {w : Word} (h : w.extractLsb' 0 3 = 7#3) : decodeCmd w = .illegal w := by
  simp [decodeCmd, h]

/-- A word of an OP that has a row decodes to what that row's command words decode to (R105). -/
theorem decodeCmd_of_masked {w : Word} {op : BitVec 3} {row : Ident → LenCode → Instr}
    (hrow : ∀ func lc, decodeCmd (cmdWord op func lc) = row func lc) (h : w &&& 0xFFFCE0FF#32 = op.setWidth 32) :
    decodeCmd w = row (w.extractLsb' 8 5) (w.extractLsb' 16 2) :=
  (congrArg decodeCmd (eq_cmdWord_of_masked op h)).trans (hrow _ _)

/-- Every word has a legal row's bits under the mask, or a reserved bit set, or OP 7 (R105). -/
theorem masked_lt_or_illegal (w : Word) :
    (w &&& 0xFFFCE0FF#32).toNat < 7 ∨
      w.extractLsb' 3 5 ≠ 0 ∨ w.extractLsb' 13 3 ≠ 0 ∨ w.extractLsb' 18 14 ≠ 0 ∨ w.extractLsb' 0 3 = 7#3 := by
  by_contra! hnone
  obtain ⟨hmasked, h73, h1513, h3118, hop⟩ := hnone
  rw [eq_cmdWord_of_reserved_eq_zero h73 h1513 h3118, Laws.cmdWord_masked] at hmasked
  bv_omega

/-- Settles O3: a word with its reserved bits 0 is a command word, and each OP has its equation. -/
theorem commandWordsDecodeByTheirFields : Obligations.CommandWordsDecodeByTheirFields := by
  intro w
  refine ⟨?illegal, decodeCmd_of_masked decodeCmd_cmdWord_encode, decodeCmd_of_masked decodeCmd_cmdWord_write,
    decodeCmd_of_masked decodeCmd_cmdWord_read, decodeCmd_of_masked decodeCmd_cmdWord_gread,
    decodeCmd_of_masked decodeCmd_cmdWord_await, decodeCmd_of_masked decodeCmd_cmdWord_recv,
    decodeCmd_of_masked decodeCmd_cmdWord_flush, masked_lt_or_illegal w⟩
  case illegal =>
    rintro (h73 | h1513 | h3118 | hop)
    · exact decodeCmd_of_reserved (.inl h73)
    · exact decodeCmd_of_reserved (.inr (.inl h1513))
    · exact decodeCmd_of_reserved (.inr (.inr h3118))
    · exact decodeCmd_of_op_seven hop

/-! ## The fields of byte 1 -/

/-- Byte 1 is the marker, the length code and the identifier side by side (R92). -/
theorem byte1_eq_append (f : Ident) (lc : LenCode) : byte1 f lc = 1#1 ++ lc ++ f := by
  revert f lc
  decide

@[simp] theorem identOf_byte1 (f : Ident) (lc : LenCode) : identOf (byte1 f lc) = f := by
  rw [identOf, byte1_eq_append]
  exact BitVec.extractLsb'_append_eq_right

@[simp] theorem lenCodeOf_byte1 (f : Ident) (lc : LenCode) : lenCodeOf (byte1 f lc) = lc := by
  rw [lenCodeOf, byte1_eq_append, BitVec.extractLsb'_append_eq_of_le (le_refl 5)]
  exact BitVec.extractLsb'_append_eq_right

@[simp] theorem isContinuation_byte1 (f : Ident) (lc : LenCode) : isContinuation (byte1 f lc) = true := by
  simp [isContinuation, byte1]

/-- Byte 1 as a number, in the arithmetic of R92. -/
theorem byte1_toNat (f : Ident) (lc : LenCode) :
    (byte1 f lc).toNat = 0x80 ||| (lc.toNat <<< 5) ||| (f.toNat &&& 0x1f) := by
  have hlc : (lc.setWidth 8 <<< 5).toNat = lc.toNat <<< 5 := by
    simp only [BitVec.toNat_shiftLeft, BitVec.toNat_setWidth, Nat.shiftLeft_eq]
    omega
  have hf : (f.setWidth 8).toNat = f.toNat &&& 0x1f := by
    rw [BitVec.toNat_setWidth, show (0x1f : Nat) = 2 ^ 5 - 1 from rfl, Nat.and_two_pow_sub_one_eq_mod]
    omega
  rw [byte1, BitVec.toNat_or, BitVec.toNat_or, hlc, hf]
  rfl

/-- The identifier read from byte 1, in the arithmetic of R92. -/
theorem identOf_toNat (b : Byte) : (identOf b).toNat = b.toNat &&& 0x1f := by
  rw [identOf, BitVec.extractLsb'_toNat, Nat.shiftRight_zero]
  exact (Nat.and_two_pow_sub_one_eq_mod _ 5).symm

/-- The length code read from byte 1, in the arithmetic of R92. -/
theorem lenCodeOf_toNat (b : Byte) : (lenCodeOf b).toNat = (b.toNat >>> 5) &&& 0x03 := by
  rw [lenCodeOf, BitVec.extractLsb'_toNat]
  exact (Nat.and_two_pow_sub_one_eq_mod _ 2).symm

/-- A built byte 1 is the outbound row of its identifier (R92). -/
@[simp] theorem decodeTx_byte1 (f : Ident) (lc : LenCode) : decodeTx (byte1 f lc) = .ok (txInstr f lc) := by
  simp [decodeTx]

/-- A built byte 1 is the inbound row of its identifier (R92). -/
@[simp] theorem decodeRx_byte1 (f : Ident) (lc : LenCode) : decodeRx (byte1 f lc) = .ok (rxInstr f lc) := by
  simp [decodeRx]

/-- Settles O5, from the fields of byte 1. -/
theorem byteOneCarriesIdentifierAndLengthCode : Obligations.ByteOneCarriesIdentifierAndLengthCode :=
  ⟨fun f lc => ⟨byte1_toNat f lc, identOf_byte1 f lc, lenCodeOf_byte1 f lc, decodeTx_byte1 f lc, decodeRx_byte1 f lc⟩,
    fun b => ⟨identOf_toNat b, lenCodeOf_toNat b⟩⟩

end Sys2Proof

/-! The Frame Codec's checksum and outbound frame (R131, R133, R134), and the obligations about them. -/

namespace Sys2Proof.Machine

/-! ## The checksum -/

/-- The checksum as a number: the unbounded sum of the bytes, reduced modulo 128 (R133). -/
theorem cks7_toNat (bs : List Byte) : (cks7 bs).toNat = sumBytes bs % 128 := BitVec.toNat_ofNat ..

/-- The low seven bits of a byte, as a number. -/
theorem low7_toNat (b : Byte) : (low7 b).toNat = b.toNat % 128 := by
  rw [low7, BitVec.extractLsb'_toNat, Nat.shiftRight_zero]

/-- Two numbers differ in none of the low seven bits exactly when they agree modulo 128. -/
theorem xor_and_127_eq_zero_iff (m n : Nat) : (m ^^^ n) &&& 0x7f = 0 ↔ m % 128 = n % 128 := by
  calc (m ^^^ n) &&& 0x7f = 0
    _ ↔ (m ^^^ n) % 2 ^ 7 = 0 := by rw [← Nat.and_two_pow_sub_one_eq_mod]
    _ ↔ m % 2 ^ 7 ^^^ n % 2 ^ 7 = 0 := by rw [Nat.xor_mod_two_pow]
    _ ↔ m % 128 = n % 128 := Nat.xor_eq_zero_iff

/-- Acceptance (R134) compares the checksum of all bytes but the last with the last one's low seven bits; no length of
the frame is needed for it. -/
theorem cksOk_iff (f : List Byte) : cksOk f = true ↔ cks7 f.dropLast = low7 (f.getLastD 0) := by
  rw [cksOk, beq_iff_eq, xor_and_127_eq_zero_iff, BitVec.toNat_eq, cks7_toNat, low7_toNat]

/-- Settles O8, from the checksum as a number and what acceptance compares. -/
theorem checksumAcceptsExactlyTheSumModulo128 : Obligations.ChecksumAcceptsExactlyTheSumModulo128 := by
  refine ⟨cks7_toNat, rfl, ?sum, ?lastByte, fun f _ _ => cksOk_iff f, ?accepted, ?rejected⟩
  case sum => decide
  case lastByte => decide
  case accepted => decide
  case rejected => decide

/-! ## The outbound frame -/

/-- The checksum byte of a frame, in the arithmetic of R131. -/
theorem contByte_cks7 (bs : List Byte) : contByte (cks7 bs) = 0x80#8 ||| BitVec.ofNat 8 (sumBytes bs % 128) := by
  rw [contByte, ← BitVec.ofNat_toNat, cks7_toNat]

/-- An encoded frame is its body and the checksum byte of all of it (R131). -/
theorem encodeFrame_eq_body_append (drive : DriveAddr) (func : Ident) (lc : LenCode) (vals : List Val7) :
    encodeFrame drive func lc vals =
      frameBody drive func lc vals ++ [0x80#8 ||| BitVec.ofNat 8 (sumBytes (frameBody drive func lc vals) % 128)] := by
  rw [encodeFrame, contByte_cks7]

/-- Settles O6: the bytes of the body stand in `frameBody` itself, and only the checksum byte is computed. -/
theorem encodedFrameBytes : Obligations.EncodedFrameBytes := by
  refine ⟨fun drive func lc vals _ => ?_, by decide⟩
  exact encodeFrame_eq_body_append drive func lc vals

end Sys2Proof.Machine

/-! The Frame Reader byte by byte and over a run of bytes (R163, R170), and the obligations about it. -/

namespace Sys2Proof.Machine

/-! ## One answer -/

/-- A start byte restarts the accumulator, whatever it holds (R164). -/
theorem readerStep_start {b : Byte} (hb : isContinuation b = false) (acc : List Byte) :
    readerStep acc (.byte b) = ([b], none) := by
  rcases readerStep_byte acc b with ⟨_, h⟩ | ⟨hc, _⟩ | ⟨hc, _⟩
  · exact h
  all_goals simp [hb] at hc

/-- In HUNT a continuation byte is dropped (R165). -/
theorem readerStep_hunt {b : Byte} (hb : isContinuation b = true) : readerStep [] (.byte b) = ([], none) := by
  rcases readerStep_byte [] b with ⟨hs, _⟩ | ⟨_, _, h⟩ | ⟨_, hne, _⟩
  · simp [hb] at hs
  · exact h
  · exact absurd rfl hne

/-- In COLLECT a continuation byte is appended (R166). -/
theorem readerStep_collect {acc : List Byte} {b : Byte} (hb : isContinuation b = true) (hacc : acc ≠ []) :
    readerStep acc (.byte b) = endOrGoOn (acc ++ [b]) := by
  rcases readerStep_byte acc b with ⟨hs, _⟩ | ⟨_, hnil, _⟩ | ⟨_, _, h⟩
  · simp [hb] at hs
  · exact absurd hnil hacc
  · exact h

theorem frameComplete_iff (acc : List Byte) :
    frameComplete acc = true ↔ 2 ≤ acc.length ∧ acc.length = 4 + (lenCodeOf (acc.getD 1 0)).toNat := by
  simp [frameComplete, Config.minFrame]

theorem endOrGoOn_of_complete {acc : List Byte} (h : frameComplete acc = true) :
    endOrGoOn acc = ([], some (.frame acc)) := if_pos h

theorem endOrGoOn_of_not_complete {acc : List Byte} (h : ¬ frameComplete acc = true) :
    endOrGoOn acc = (acc, none) := if_neg h

/-- Settles O11, one equation of the reader for each case of R163. -/
theorem readerStepCases : Obligations.ReaderStepCases := by
  intro acc b
  refine ⟨rfl, rfl, fun hb => readerStep_start hb acc, fun hb hacc => hacc ▸ readerStep_hunt hb,
    fun hb hacc => ⟨fun hwhole => ?ends, fun hpart => ?goesOn⟩, by decide, by decide⟩
  case ends =>
    rw [readerStep_collect hb hacc]
    exact endOrGoOn_of_complete ((frameComplete_iff _).mpr hwhole)
  case goesOn =>
    rw [readerStep_collect hb hacc]
    exact endOrGoOn_of_not_complete (mt (frameComplete_iff _).mp hpart)

/-! ## A run of bytes -/

theorem readBytes_cons_of_goesOn {acc acc' : List Byte} {b : Byte} (h : readerStep acc (.byte b) = (acc', none))
    (rest : List Byte) : readBytes acc (b :: rest) = readBytes acc' rest := by
  simp [readBytes, h]

theorem readBytes_cons_of_ends {acc acc' : List Byte} {b : Byte} {o : Outcome}
    (h : readerStep acc (.byte b) = (acc', some o)) (rest : List Byte) :
    readBytes acc (b :: rest) = (acc', some o, rest) := by
  simp [readBytes, h]

/-- Bytes without an outcome only move the accumulator on for the bytes after them (R173). -/
theorem readBytes_append_of_goesOn {acc acc' bs : List Byte} (h : readBytes acc bs = (acc', none, []))
    (rest : List Byte) : readBytes acc (bs ++ rest) = readBytes acc' rest := by
  induction bs generalizing acc with
  | nil =>
    obtain ⟨rfl, -⟩ := Prod.mk.inj h
    rfl
  | cons b bs ih =>
    rcases hstep : readerStep acc (.byte b) with ⟨acc1, _ | o⟩
    · rw [readBytes_cons_of_goesOn hstep] at h
      rw [List.cons_append, readBytes_cons_of_goesOn hstep, ih h]
    · simp [readBytes_cons_of_ends hstep] at h

/-! ## The bytes of a frame -/

section
variable {f : List Byte} (hf : FrameShape f) {k : Nat}
include hf

theorem FrameShape.four_le_length : 4 ≤ f.length := by
  obtain ⟨hlen, -, -⟩ := hf
  omega

/-- The first byte of a frame is a start byte. -/
theorem FrameShape.take_one : ∃ b, f.take 1 = [b] ∧ isContinuation b = false := by
  have hfour := hf.four_le_length
  obtain ⟨-, hstart, -⟩ := hf
  cases f with
  | nil => simp at hfour
  | cons b bs => exact ⟨b, rfl, hstart⟩

theorem FrameShape.isContinuation_getElem_succ (hk : k + 1 < f.length) : isContinuation f[k + 1] = true := by
  obtain ⟨-, -, hcont⟩ := hf
  refine hcont _ (List.mem_iff_getElem.mpr ⟨k, ?_, ?_⟩)
  · rw [List.length_drop]
    omega
  · simp

/-- A frame ends at its last byte and not before: byte 1 announces the same length in every beginning that has it (R170). -/
theorem FrameShape.frameComplete_take_iff (hk : k ≤ f.length) : frameComplete (f.take k) = true ↔ k = f.length := by
  obtain ⟨hlen, -, -⟩ := hf
  rw [frameComplete_iff, List.length_take_of_le hk]
  constructor
  · rintro ⟨htwo, heq⟩
    rwa [List.getD_eq_getElem?_getD, List.getElem?_take_of_lt (by omega), ← List.getD_eq_getElem?_getD, ← hlen] at heq
  · rintro rfl
    rw [List.take_length]
    exact ⟨by omega, hlen⟩

/-- With a beginning of a frame collected, its next byte gives the next longer beginning. -/
theorem FrameShape.readerStep_take_succ (hk : k + 1 < f.length) :
    readerStep (f.take (k + 1)) (.byte f[k + 1]) = endOrGoOn (f.take (k + 2)) := by
  have hne : f.take (k + 1) ≠ [] := List.ne_nil_of_length_pos (by rw [List.length_take]; omega)
  rw [readerStep_collect (hf.isContinuation_getElem_succ hk) hne, List.take_append_getElem hk]

/-- A proper beginning of a frame, once read, is all that the accumulator holds. -/
theorem FrameShape.readBytes_take_succ (acc : List Byte) (hk : k + 1 < f.length) :
    readBytes acc (f.take (k + 1)) = (f.take (k + 1), none, []) := by
  induction k with
  | zero =>
    obtain ⟨b, htake, hb⟩ := hf.take_one
    rw [htake, readBytes_cons_of_goesOn (readerStep_start hb acc)]
    rfl
  | succ k ih =>
    have hk' : k + 1 < f.length := by omega
    have hstep : readerStep (f.take (k + 1)) (.byte f[k + 1]) = (f.take (k + 2), none) := by
      rw [hf.readerStep_take_succ hk']
      exact endOrGoOn_of_not_complete (mt (hf.frameComplete_take_iff hk.le).mp hk.ne)
    calc readBytes acc (f.take (k + 2))
      _ = readBytes acc (f.take (k + 1) ++ [f[k + 1]]) := by rw [List.take_append_getElem hk']
      _ = readBytes (f.take (k + 1)) [f[k + 1]] := readBytes_append_of_goesOn (ih hk') _
      _ = (f.take (k + 2), none, []) := readBytes_cons_of_goesOn hstep []

/-- A frame's bytes complete that frame from any accumulator, and what follows it stays unread (R170, R173). -/
theorem FrameShape.readBytes_append (acc rest : List Byte) :
    readBytes acc (f ++ rest) = ([], some (.frame f), rest) := by
  obtain ⟨k, hlen⟩ : ∃ k, f.length = k + 2 := Nat.exists_eq_add_of_le' (by have := hf.four_le_length; omega)
  have hk : k + 1 < f.length := by omega
  have hwhole : f.take (k + 2) = f := by rw [← hlen, List.take_length]
  have hlast : readerStep (f.take (k + 1)) (.byte f[k + 1]) = ([], some (.frame f)) := by
    rw [hf.readerStep_take_succ hk, endOrGoOn_of_complete ((hf.frameComplete_take_iff hlen.ge).mpr hlen.symm), hwhole]
  calc readBytes acc (f ++ rest)
    _ = readBytes acc (f.take (k + 1) ++ f[k + 1] :: rest) := by
      rw [List.append_cons, List.take_append_getElem hk, hwhole]
    _ = readBytes (f.take (k + 1)) (f[k + 1] :: rest) := readBytes_append_of_goesOn (hf.readBytes_take_succ acc hk) _
    _ = ([], some (.frame f), rest) := readBytes_cons_of_ends hlast rest

end

/-- Settles O13: every proper beginning of the frame only moves the accumulator, and the last byte completes it. -/
theorem readerResynchronisesOnAnyStartByte : Obligations.ReaderResynchronisesOnAnyStartByte := by
  intro acc f rest hf
  refine ⟨hf.readBytes_append acc rest, fun k hk => ?_⟩
  cases k with
  | zero => rfl
  | succ k => rw [hf.readBytes_take_succ acc hk]

end Sys2Proof.Machine

/-! The values of the Value Decoder (R192 to R196) as numbers and bits, and the obligations about them. -/

namespace Sys2Proof.Machine

/-! ## GearPair -/

/-- The low seven bits of a byte are its mask with 0x7f, as R193 writes them. -/
theorem low7_toNat_eq_and (b : Byte) : (low7 b).toNat = b.toNat &&& 0x7f := by
  rw [low7_toNat]
  exact (Nat.and_two_pow_sub_one_eq_mod _ 7).symm

/-- A half of a GearPair, in the arithmetic of R193. -/
theorem pair14_toNat (a b : Byte) : (pair14 a b).toNat = (a.toNat &&& 0x7f) <<< 7 ||| (b.toNat &&& 0x7f) := by
  rw [pair14, BitVec.toNat_setWidth_of_le (by decide), BitVec.toNat_append, low7_toNat_eq_and, low7_toNat_eq_and]

/-- A half of a GearPair is a 14-bit number (R193). -/
theorem pair14_toNat_le (a b : Byte) : (pair14 a b).toNat ≤ 16383 := by
  rw [pair14, BitVec.toNat_setWidth_of_le (by decide)]
  exact Nat.le_of_lt_succ (low7 a ++ low7 b).isLt

/-- Settles O18, half by half. -/
theorem gearPairHalvesAreFourteenBitNumbers : Obligations.GearPairHalvesAreFourteenBitNumbers :=
  ⟨fun a b c d => ⟨pair14_toNat a b, pair14_toNat c d, pair14_toNat_le a b, pair14_toNat_le c d⟩, rfl⟩

/-! ## StatusRecord and ConfigRecord -/

/-- The status record as a number, in the arithmetic of R195. -/
theorem statusRecord_toNat (b : Byte) :
    (statusRecord b).toNat =
      ((b.toNat &&& 0x7f) ^^^ 0x01) ||| ((if 4 < b.toNat / 4 % 8 then 1 else 0) <<< 7) := by
  revert b
  decide

/-- The alarm code stands in the record where it stands in the field byte (R195). -/
theorem statusRecord_alarmCode (b : Byte) : (statusRecord b).extractLsb' 2 3 = alarmCode b := by
  rw [statusRecord]
  iterate 2 rw [BitVec.extractLsb'_append_eq_of_le (by decide)]
  exact BitVec.extractLsb'_append_eq_right

/-- Bit 7 of a status record flags the reserved alarm codes (R195). -/
theorem statusRecord_alarmReserved (b : Byte) :
    (statusRecord b).getLsbD 7 = decide (4 < (alarmCode b).toNat) := by
  rw [statusRecord]
  repeat rw [BitVec.getLsbD_append]
  simp [BitVec.lt_def]

/-- A status record takes no more than its low byte. -/
theorem statusRecord_high (b : Byte) : (statusRecord b).extractLsb' 8 24 = 0#24 := by
  rw [statusRecord]
  iterate 5 rw [BitVec.extractLsb'_append_eq_of_le (by decide)]
  exact BitVec.extractLsb'_append_eq_left

/-- The seven bits of a config record are as received (R196). -/
theorem configRecord_low (b : Byte) : (configRecord b).extractLsb' 0 7 = low7 b :=
  BitVec.extractLsb'_append_eq_right

/-- Bit 7 of a config record flags the reserved servo_mode (R196). -/
theorem configRecord_servoReserved (b : Byte) : (configRecord b).getLsbD 7 = (servoMode b == 3#2) := by
  rw [configRecord]
  repeat rw [BitVec.getLsbD_append]
  simp

/-- A config record takes no more than its low byte. -/
theorem configRecord_high (b : Byte) : (configRecord b).extractLsb' 8 24 = 0#24 := by
  rw [configRecord, BitVec.extractLsb'_append_eq_of_le (by decide)]
  exact BitVec.extractLsb'_append_eq_left

/-- Settles O19, field by field; the four single bits are each found in their part of the record. -/
theorem recordBitsOfStatusAndConfig : Obligations.RecordBitsOfStatusAndConfig := by
  intro b
  refine ⟨statusRecord_toNat b, ?inPosition, ?motorFree, statusRecord_alarmCode b, ?motionBusy, ?pin2,
    statusRecord_high b, statusRecord_alarmReserved b, configRecord_low b, configRecord_servoReserved b,
    configRecord_high b⟩
  all_goals
    rw [statusRecord]
    repeat rw [BitVec.getLsbD_append]
    simp

/-! ## SignedInteger -/

/-- The first payload byte alone is a 7-bit two's-complement number (R192). -/
theorem signedHead_eq_toInt (b : Byte) : signedHead b = (low7 b).toInt := by
  revert b
  decide

/-- One more byte extends the big-endian number by seven bits. -/
theorem bigEndian_append (ps : List Byte) (b : Byte) :
    bigEndian (ps ++ [b]) = bigEndian ps * 128 + b.toNat % 128 := by
  simp [bigEndian]

/-- One more byte extends the signed number by seven bits (R192). -/
theorem sdec_append {ps : List Byte} (hps : ps ≠ []) (b : Byte) :
    sdec (ps ++ [b]) = sdec ps * 128 + ((low7 b).toNat : Int) := by
  cases ps with
  | nil => exact absurd rfl hps
  | cons a as => simp [sdec]

/-- A number extended by the seven bits of a byte is the two bit strings side by side. -/
theorem ofNat_mul_add_eq_append (n m : Nat) (b : Byte) :
    BitVec.ofNat (n + 7) (m * 128 + b.toNat % 128) = BitVec.ofNat n m ++ low7 b := by
  apply BitVec.eq_of_toNat_eq
  rw [BitVec.toNat_append, ← Nat.shiftLeft_add_eq_or_of_lt (low7 b).isLt, Nat.shiftLeft_eq, low7_toNat,
    BitVec.toNat_ofNat, BitVec.toNat_ofNat, Nat.add_comm n, Nat.pow_add, Nat.mod_mul]
  have hlow : (m * 128 + b.toNat % 128) % 2 ^ 7 = b.toNat % 128 := by omega
  have hhigh : (m * 128 + b.toNat % 128) / 2 ^ 7 = m := by omega
  rw [hlow, hhigh]
  omega

/-- The SignedInteger of k payload bytes is their 7k bits in two's complement (R192): the first byte gives the sign, and
every further byte is appended below. -/
theorem sdec_eq_toInt_bigEndian {ps : List Byte} (hps : ps ≠ []) :
    sdec ps = (BitVec.ofNat (7 * ps.length) (bigEndian ps)).toInt := by
  induction ps using List.reverseRecOn with
  | nil => exact absurd rfl hps
  | append_singleton ps b ih =>
    rw [bigEndian_append, List.length_append, List.length_singleton, Nat.mul_succ, ofNat_mul_add_eq_append,
      BitVec.toInt_append]
    cases ps with
    | nil => simpa [sdec] using signedHead_eq_toInt b
    | cons a as =>
      rw [sdec_append (List.cons_ne_nil a as), ih (List.cons_ne_nil a as), if_neg (by simp)]
      omega

end Sys2Proof.Machine

/-! The drive-side identifiers by their bytes, verdicts and judgements (R200 to R231, R270), and the obligations about
them. -/

namespace Sys2Proof.Machine

/-! ## The bytes of an inbound row -/

/-- The mask of the inbound rows keeps the identifier. -/
theorem identOf_masked (b : Byte) : identOf (b &&& 0x9F#8) = identOf b := extractLsb'_and_of_allOnes b (by decide)

/-- The mask of the inbound rows keeps the continuation marker. -/
theorem isContinuation_masked (b : Byte) : isContinuation (b &&& 0x9F#8) = isContinuation b := by
  simp [isContinuation]

/-- A byte that is an identifier's under the mask of the inbound rows decodes to that identifier's row, with the byte's
length code (R92). -/
theorem decodeRx_of_masked {f : Ident} {b : Byte} (h : b &&& 0x9F#8 = 0x80#8 ||| BitVec.setWidth 8 f) :
    decodeRx b = .ok (rxInstr f (b.extractLsb' 5 2)) := by
  have hmasked : b &&& 0x9F#8 = byte1 f 0 &&& 0x9F#8 := h.trans (Laws.byte1_masked f 0).symm
  have hident : identOf b = f := by
    rw [← identOf_masked, hmasked, identOf_masked, identOf_byte1]
  have hcont : isContinuation b = true := by
    rw [← isContinuation_masked, hmasked, isContinuation_masked, isContinuation_byte1]
  rw [decodeRx, if_pos hcont, hident, lenCodeOf]

/-! ## The verdict on each class of identifiers -/

section
variable {f : Ident} {lc : LenCode} {frame ps : List Byte} {b0 b1 b2 b3 b4 b5 b6 c : Byte}

theorem rxVerdict_unallowed (h : f.toNat ≤ 0x0a ∨ f.toNat = 0x1f) : rxVerdict f lc frame = .unallowed :=
  if_pos (by bv_omega)

theorem rxVerdict_unknown (h : (0x0b ≤ f.toNat ∧ f.toNat ≤ 0x0f) ∨ f.toNat = 0x1c ∨ f.toNat = 0x1d) :
    rxVerdict f lc frame = .unknown := by
  rw [rxVerdict, if_neg (by bv_omega), if_pos (by bv_omega)]

theorem rxVerdict_scalar (hlo : 0x10 ≤ f.toNat) (hhi : f.toNat ≤ 0x17) :
    rxVerdict f lc frame = scalarVerdict lc frame := by
  rw [rxVerdict, if_neg (by bv_omega), if_neg (by bv_omega), if_pos (by bv_omega)]

theorem rxVerdict_gear : rxVerdict 0x18#5 lc frame = gearVerdict lc frame := rfl

theorem rxVerdict_status : rxVerdict 0x19#5 lc frame = statusVerdict lc frame := rfl

theorem rxVerdict_config : rxVerdict 0x1a#5 lc frame = configVerdict lc frame := rfl

theorem rxVerdict_signed (h : f = 0x1b#5 ∨ f = 0x1e#5) : rxVerdict f lc frame = signedVerdict frame := by
  rcases h with rfl | rfl <;> rfl

/-! ## The verdict on a frame of the required length -/

theorem scalarVerdict_value (h : frame = [b0, b1, b2, b3]) :
    scalarVerdict 0 frame = .value ⟨.scalar7, (b2.extractLsb' 0 7).setWidth 32, 0⟩ := by
  subst h
  rfl

theorem gearVerdict_value (h : frame = [b0, b1, b2, b3, b4, b5, b6]) :
    gearVerdict 3 frame =
      .value ⟨.gearPair, (b2.extractLsb' 0 7 ++ b3.extractLsb' 0 7).setWidth 32,
        (b4.extractLsb' 0 7 ++ b5.extractLsb' 0 7).setWidth 32⟩ := by
  subst h
  rfl

theorem statusVerdict_value (h : frame = [b0, b1, b2, b3]) :
    statusVerdict 0 frame = .value ⟨.statusRecord, statusRecord b2, (b2.extractLsb' 0 7).setWidth 32⟩ := by
  subst h
  rfl

theorem configVerdict_value (h : frame = [b0, b1, b2, b3]) :
    configVerdict 0 frame = .value ⟨.configRecord, configRecord b2, (b2.extractLsb' 0 7).setWidth 32⟩ := by
  subst h
  rfl

/-- A SignedInteger frame gives its payload bits in two's complement, and how many bytes they are (R227, R230). -/
theorem signedVerdict_value (hps : ps ≠ []) (h : frame = b0 :: b1 :: ps ++ [c]) :
    signedVerdict frame =
      .value ⟨.signed, BitVec.ofInt 32 (BitVec.ofNat (7 * ps.length) (bigEndian ps)).toInt,
        BitVec.ofNat 32 ps.length⟩ := by
  have hpayload : payloadOf frame = ps := by simp [payloadOf, h]
  have hlength : frame.length - Config.frameOverhead = ps.length := by simp [Config.frameOverhead, h]
  rw [signedVerdict, hpayload, hlength, sdec_eq_toInt_bigEndian hps]

/-! ## The verdict on a frame of another length (R197) -/

theorem scalarVerdict_lengthMismatch (h : lc ≠ 0) : scalarVerdict lc frame = .lengthMismatch := if_pos h

theorem gearVerdict_lengthMismatch (h : lc ≠ 3) : gearVerdict lc frame = .lengthMismatch := if_pos h

theorem statusVerdict_lengthMismatch (h : lc ≠ 0) : statusVerdict lc frame = .lengthMismatch := if_pos h

theorem configVerdict_lengthMismatch (h : lc ≠ 0) : configVerdict lc frame = .lengthMismatch := if_pos h

end

/-! ## The judgement, by command and verdict

The field updates are those of R356 and R272, written out. -/

theorem finish_none_eq (e : ErrCode) (s : State) :
    finish e none s = { s with err := e, acc := [], ses := .idle, busy := false, done := true } := by
  cases e <;> rfl

theorem finish_value_eq (v : Value) (s : State) :
    finish .ok (some v) s =
      { s with
        err := .ok, resTag := v.tag, result0 := v.r0, result1 := v.r1
        acc := [], ses := .idle, busy := false, done := true } := rfl

/-- A non-matching frame begins another attempt, or at the bound exhausts the command with UNEXPECTED_FUNC, the code
that SAW_NONMATCH decides (R272, R273). -/
theorem nonMatch_eq (s : State) :
    nonMatch s =
      if s.attempts < s.maxAttempts then { s with sawNonmatch := true, busy := true, acc := [], ses := .reading }
      else { s with sawNonmatch := true, err := .unexpectedFunc, acc := [], ses := .idle, busy := false, done := true } := rfl

/-- A matching command is not RECV. -/
theorem Matching.ne_recv {o : Op} (h : Matching o) : o ≠ .recv := by
  rcases h with rfl | rfl | rfl <;> decide

/-- An inbound identifier's row judges its verdict. -/
theorem exec_rxInstr_eq (f : Ident) (lc : LenCode) (s : State) :
    exec (rxInstr f lc) s = .next (rxJudge f (rxVerdict f lc s.rxf) s) := by
  rw [exec_rxInstr, rxMeaning_eq]

section
variable {f : Ident} {lc : LenCode} {s : State}

theorem exec_rxInstr_recv_unallowed (hop : s.op = .recv) (hv : rxVerdict f lc s.rxf = .unallowed) :
    exec (rxInstr f lc) s =
      .next { s with err := .unallowed, acc := [], ses := .idle, busy := false, done := true } := by
  rw [exec_rxInstr_eq, hv, rxJudge, if_pos hop, finish_none_eq]

theorem exec_rxInstr_recv_unknown (hop : s.op = .recv) (hv : rxVerdict f lc s.rxf = .unknown) :
    exec (rxInstr f lc) s =
      .next { s with err := .unrecognized, acc := [], ses := .idle, busy := false, done := true } := by
  rw [exec_rxInstr_eq, hv, rxJudge, if_pos hop, finish_none_eq]

/-- A matching command takes a frame that the decoder gives no value for as non-matching, whatever it expects (log 8). -/
theorem exec_rxInstr_nonMatch (hop : Matching s.op)
    (hv : rxVerdict f lc s.rxf = .unallowed ∨ rxVerdict f lc s.rxf = .unknown) :
    exec (rxInstr f lc) s = .next (nonMatch s) := by
  rw [exec_rxInstr_eq]
  rcases hv with hv | hv <;> rw [hv, rxJudge, if_neg hop.ne_recv]

/-- Under RECV, or when its identifier is the expected one, a decoded value is the command's result (R270). -/
theorem exec_rxInstr_value {v : Value} (h : s.op = .recv ∨ Matching s.op ∧ s.expf = f)
    (hv : rxVerdict f lc s.rxf = .value v) :
    exec (rxInstr f lc) s =
      .next { s with
        err := .ok, resTag := v.tag, result0 := v.r0, result1 := v.r1
        acc := [], ses := .idle, busy := false, done := true } := by
  rw [exec_rxInstr_eq, hv, ← finish_value_eq]
  rcases h with hrecv | ⟨hmatching, rfl⟩
  · simp [rxJudge, hrecv]
  · simp [rxJudge, hmatching.ne_recv]

/-- Under RECV, or when its identifier is the expected one, a frame of a wrong length ends the command (R270). -/
theorem exec_rxInstr_length (h : s.op = .recv ∨ Matching s.op ∧ s.expf = f)
    (hv : rxVerdict f lc s.rxf = .lengthMismatch) :
    exec (rxInstr f lc) s = .next { s with err := .length, acc := [], ses := .idle, busy := false, done := true } := by
  rw [exec_rxInstr_eq, hv, ← finish_none_eq]
  rcases h with hrecv | ⟨hmatching, rfl⟩
  · simp [rxJudge, hrecv]
  · simp [rxJudge, hmatching.ne_recv]

end

/-! ## The obligations -/

/-- Settles O21. The typed premise of the last clause is not needed: an unallowed frame is non-matching whatever
identifier is expected (log 8). -/
theorem unallowedIdentifiersGiveNoValue : Obligations.UnallowedIdentifiersGiveNoValue := by
  intro f lc b s hf
  have hv : rxVerdict f lc s.rxf = .unallowed := rxVerdict_unallowed hf
  refine ⟨decodeRx_of_masked, fun hrecv => exec_rxInstr_recv_unallowed hrecv hv, fun hmatching _ => ?_⟩
  rw [exec_rxInstr_nonMatch hmatching (.inl hv), nonMatch_eq]

/-- Settles O22, as O21 for the unknown identifiers. -/
theorem unknownIdentifiersGiveNoValue : Obligations.UnknownIdentifiersGiveNoValue := by
  intro f lc b s hf
  have hv : rxVerdict f lc s.rxf = .unknown := rxVerdict_unknown hf
  refine ⟨decodeRx_of_masked, fun hrecv => exec_rxInstr_recv_unknown hrecv hv, fun hmatching _ => ?_⟩
  rw [exec_rxInstr_nonMatch hmatching (.inr hv), nonMatch_eq]

/-- Settles O23, from the verdict on a Scalar7 frame. -/
theorem scalarFramesDecodeToSevenBits : Obligations.ScalarFramesDecodeToSevenBits := by
  intro f lc s hlo hhi hop
  have hscalar : rxVerdict f lc s.rxf = scalarVerdict lc s.rxf := rxVerdict_scalar hlo hhi
  refine ⟨fun b => decodeRx_of_masked, ?value, ?length⟩
  case value =>
    rintro b0 b1 b2 b3 rfl hframe
    exact exec_rxInstr_value hop (hscalar.trans (scalarVerdict_value hframe))
  case length => exact fun hlc => exec_rxInstr_length hop (hscalar.trans (scalarVerdict_lengthMismatch hlc))

/-- Settles O24, from the verdict on a GearPair frame. -/
theorem gearFramesDecodeToPairs : Obligations.GearFramesDecodeToPairs := by
  intro lc s hop
  refine ⟨fun b => decodeRx_of_masked (f := 0x18#5), ?value, ?length⟩
  case value =>
    rintro b0 b1 b2 b3 b4 b5 b6 rfl hframe
    exact exec_rxInstr_value hop (rxVerdict_gear.trans (gearVerdict_value hframe))
  case length => exact fun hlc => exec_rxInstr_length hop (rxVerdict_gear.trans (gearVerdict_lengthMismatch hlc))

/-- Settles O25, from the verdicts on the two kinds of record; the corner values are computed. -/
theorem recordFramesDecodeToRecords : Obligations.RecordFramesDecodeToRecords := by
  refine ⟨fun lc s => ⟨?status, ?statusLength, ?config, ?configLength⟩,
    fun b => ⟨decodeRx_of_masked (f := 0x19#5), decodeRx_of_masked (f := 0x1a#5)⟩, by decide⟩
  case status =>
    rintro b0 b1 b2 b3 hop rfl hframe
    exact exec_rxInstr_value hop (rxVerdict_status.trans (statusVerdict_value hframe))
  case statusLength =>
    exact fun hop hlc => exec_rxInstr_length hop (rxVerdict_status.trans (statusVerdict_lengthMismatch hlc))
  case config =>
    rintro b0 b1 b2 b3 hop rfl hframe
    exact exec_rxInstr_value hop (rxVerdict_config.trans (configVerdict_value hframe))
  case configLength =>
    exact fun hop hlc => exec_rxInstr_length hop (rxVerdict_config.trans (configVerdict_lengthMismatch hlc))

/-- Settles O26, from the verdict on a SignedInteger frame; of the length code only the number of payload bytes
matters. -/
theorem signedFramesDecodeToIntegers : Obligations.SignedFramesDecodeToIntegers := by
  refine ⟨fun lc s ps hlen => ?_, fun b => ⟨decodeRx_of_masked (f := 0x1b#5), decodeRx_of_masked (f := 0x1e#5)⟩⟩
  have hps : ps ≠ [] := List.ne_nil_of_length_eq_add_one hlen
  exact ⟨fun hop b0 b1 c hframe =>
      exec_rxInstr_value hop ((rxVerdict_signed (.inl rfl)).trans (signedVerdict_value hps hframe)),
    fun hop b0 b1 c hframe =>
      exec_rxInstr_value hop ((rxVerdict_signed (.inr rfl)).trans (signedVerdict_value hps hframe))⟩

end Sys2Proof.Machine

/-! The Command Session outside an attempt: how a command starts, what it sends, and how the answers to its flush and
its write move it (R262 to R265, R280, R281, R286, R287), and the obligations about it. -/

namespace Sys2Proof.Machine

/-! ## Starting a command -/

/-- Settles O55: both are what the operations say, field by field and branch by branch. -/
theorem commandStartClearsTheLastStatus : Obligations.CommandStartClearsTheLastStatus :=
  fun _ => ⟨rfl, fun k hidle => startCommand_idle k hidle⟩

section
variable {s : State} (func : Ident) (lc : LenCode) (hidle : s.busy = false)
include hidle

/-- ENCODE, started: the frame is built and the command completes (R280). -/
theorem exec_encode_idle :
    exec (.encode func lc) s =
      .next (finish .ok none
        (storeFrame (buildFrame s func lc) (latchOp .encode (clearForStart s)))) := by
  rw [exec_encode, startCommand_idle _ hidle, txMeaning_eq]
  rfl

/-- WRITE, started: the frame is built and sent (R281). -/
theorem exec_write_idle :
    exec (.write func lc) s =
      .next (send (storeFrame (buildFrame s func lc) (latchOp .write (clearForStart s)))) := by
  rw [exec_write, startCommand_idle _ hidle, txMeaning_eq]
  rfl

/-- FLUSH, started: the flush is outstanding (R286). -/
theorem exec_flush_idle :
    exec (.flush func lc) s =
      .next { latchOp .flush (clearForStart s) with busy := true, ses := .flushing } := by
  rw [exec_flush, startCommand_idle _ hidle]

/-- An illegal word, started: it completes with its error (R287). -/
theorem exec_illegal_idle (w : Word) :
    exec (.illegal w) s = .next (finish .illegalCmd none (clearForStart s)) := by
  rw [exec_illegal, startCommand_idle _ hidle]

end

/-- The host's write to COMMAND, as a step of the script. -/
theorem step_writeCommand {s : State} {w : Word} {i : Instr} {rest : List Event} (hw : decodeCmd w = i)
    (h : s.env = .hostWrite 2 w :: rest) : step s = exec i { s with env := rest } := by
  rw [step_cons h, handle, hostWrite_command, hw]

/-! ## The answers to a flush and to a write -/

section
variable {s : State} {rest : List Event} {c : Nat}

theorem step_flushAck (hses : s.ses = .flushing) (h : s.pending = .answer .flushAck :: rest) :
    step s = .next (onFlushAck { s with env := rest }) := (step_pending h).trans (deliver_flushAck hses)

theorem step_count (hses : s.ses = .writing) (h : s.pending = .answer (.count c) :: rest) :
    step s = .next (onCount c { s with env := rest }) := (step_pending h).trans (deliver_count c hses)

/-- FlushAck completes FLUSH (R264, R286). -/
theorem step_flushAck_flush (hses : s.ses = .flushing) (hop : s.op = .flush)
    (h : s.pending = .answer .flushAck :: rest) :
    step s =
      .next { s with env := rest, err := .ok, acc := [], ses := .idle, busy := false, done := true } := by
  rw [step_flushAck hses h, onFlushAck, if_pos hop, finish_none_eq]

/-- FlushAck makes a sending command's write outstanding, and observed (R264, R265). -/
theorem step_flushAck_send (hses : s.ses = .flushing) (hop : s.op ≠ .flush)
    (h : s.pending = .answer .flushAck :: rest) : step s = .next (issueWrite { s with env := rest }) := by
  rw [step_flushAck hses h, onFlushAck, if_neg hop]

/-- A count other than the frame's length is a transport error, whatever the command (R265). -/
theorem step_count_mismatch (hses : s.ses = .writing) (hc : c ≠ s.txf.length)
    (h : s.pending = .answer (.count c) :: rest) :
    step s =
      .next { s with env := rest, err := .transport, acc := [], ses := .idle, busy := false, done := true } := by
  rw [step_count hses h, onCount, if_pos hc, finish_none_eq]

/-- The count of the whole frame completes WRITE (R265, R281). -/
theorem step_count_write (hses : s.ses = .writing) (hc : c = s.txf.length) (hop : s.op = .write)
    (h : s.pending = .answer (.count c) :: rest) :
    step s =
      .next { s with env := rest, err := .ok, acc := [], ses := .idle, busy := false, done := true } := by
  rw [step_count hses h, onCount, if_neg (not_not_intro hc), if_pos hop, finish_none_eq]

/-- The count of the whole frame begins the first attempt of a command that awaits a reply (R265, R266). -/
theorem step_count_await (hses : s.ses = .writing) (hc : c = s.txf.length) (hop : s.op ≠ .write)
    (h : s.pending = .answer (.count c) :: rest) : step s = .next (beginAttempt { s with env := rest }) := by
  rw [step_count hses h, onCount, if_neg (not_not_intro hc), if_neg hop]

/-- WRITE completes on the count, with a code that says whether the whole frame was accepted (R281). -/
theorem step_count_of_write (hses : s.ses = .writing) (hop : s.op = .write)
    (h : s.pending = .answer (.count c) :: rest) :
    step s =
      .next { s with
        env := rest, err := if c = s.txf.length then .ok else .transport
        acc := [], ses := .idle, busy := false, done := true } := by
  by_cases hc : c = s.txf.length
  · rw [step_count_write hses hc hop h, if_pos hc]
  · rw [step_count_mismatch hses hc h, if_neg hc]

end

/-- Settles O41, answer by answer. -/
theorem flushAndWriteAnswersAdvanceTheSend : Obligations.FlushAndWriteAnswersAdvanceTheSend := by
  intro s rest c
  refine ⟨fun hses hack => ⟨fun hop => step_flushAck_flush hses hop hack,
      fun hop => step_flushAck_send hses hop hack⟩,
    fun hses => ⟨?request, fun hcount => ⟨fun hc => step_count_mismatch hses hc hcount,
      fun hc hop => step_count_write hses hc hop hcount, fun hc hop => step_count_await hses hc hop hcount⟩⟩⟩
  case request => rw [State.request, hses]

/-! ## ENCODE -/

/-- P0 is the low lane of PAYLOAD (R27). -/
theorem payloadWord_p0 (s : State) : (payloadWord s).extractLsb' 0 7 = s.p0 :=
  BitVec.extractLsb'_append_eq_right

/-- Settles O30. In the example PAYLOAD is 0, so the one payload value is 0 and the frame is a closed one. -/
theorem encodeCommandBuildsItsFrame : Obligations.EncodeCommandBuildsItsFrame := by
  refine ⟨fun func lc s hidle => ?effect, fun w => decodeCmd_of_masked decodeCmd_cmdWord_encode, ?vector⟩
  case effect =>
    rw [exec_encode_idle func lc hidle]
    rfl
  case vector =>
    intro s hidle hdrive hpayload
    have hp0 : s.p0 = 0#7 := by
      rw [← payloadWord_p0, ← readSlot_payload, hpayload]
      rfl
    have hframe : buildFrame s 0x18#5 0 = [0x01#8, 0x98#8, 0x80#8, 0x99#8] := by
      have hvals : payloadValues s 0 = [0#7] := congrArg (fun p : Val7 => [p]) hp0
      rw [buildFrame, hdrive, hvals]
      decide
    refine ⟨_, exec_encode_idle 0x18#5 0 hidle, ?lo, ?hi⟩
    case lo =>
      rw [readSlot_txfLo, finish_none_txf]
      exact congrArg frameLo hframe
    case hi =>
      rw [readSlot_txfHi, finish_none_txf]
      exact congrArg frameHi hframe

/-! ## WRITE -/

/-- A frame has one byte for each of its values and three more (R95, R131). -/
theorem length_encodeFrame (drive : DriveAddr) (func : Ident) (lc : LenCode) (vals : List Val7) :
    (encodeFrame drive func lc vals).length = vals.length + 3 := by
  simp [encodeFrame, frameBody]

/-- A command's frame is as long as its length code announces (R95, R103). -/
theorem length_buildFrame (s : State) (func : Ident) (lc : LenCode) :
    (buildFrame s func lc).length = 4 + lc.toNat := by
  have hvals : (payloadValues s lc).length = lc.toNat + 1 := List.length_take_of_le (Nat.succ_le_of_lt lc.isLt)
  rw [buildFrame, length_encodeFrame, hvals]
  omega

/-- Sending, up to the write (R264, R265): the flush, where it is enabled, takes its one answer. -/
theorem run_send {u : State} {rest : List Event} (hop : u.op ≠ .flush)
    (henv : u.env = (if u.flushOnSend = true then [.answer .flushAck] else []) ++ rest) :
    Sys2Proof.core.run (if u.flushOnSend = true then 1 else 0) (send u) =
      .next (issueWrite { u with busy := true, env := rest }) := by
  rcases send_cases u with ⟨hflush, hsend⟩ | ⟨hflush, hsend⟩
  · rw [if_pos hflush] at henv
    rw [if_pos hflush, hsend]
    exact run_succ 0 (step_flushAck_send rfl hop (pending_cons henv))
  · obtain rfl : u.env = rest := by simpa [hflush] using henv
    rw [if_neg (by simp [hflush]), hsend]
    rfl

/-- WRITE from its start to its completion, by the script of its answers (R281). -/
theorem run_write {func : Ident} {lc : LenCode} {c : Nat} {rest : List Event} {s : State} (hidle : s.busy = false)
    (henv : s.env = .hostWrite 2 (cmdWord 1#3 func lc) ::
      ((if s.flushOnSend = true then [.answer .flushAck] else []) ++ .answer (.count c) :: rest)) :
    Sys2Proof.core.run (if s.flushOnSend = true then 3 else 2) s =
      .next { clearForStart s with
        op := .write, txf := buildFrame s func lc
        obs := if s.debug = true then s.obs ++ [⟨.tx, buildFrame s func lc⟩] else s.obs
        env := rest, err := if c = (buildFrame s func lc).length then .ok else .transport
        acc := [], ses := .idle, busy := false, done := true } := by
  have hstart := (step_writeCommand (decodeCmd_cmdWord_write func lc) henv).trans (exec_write_idle func lc hidle)
  have hsteps : (if s.flushOnSend = true then 3 else 2) = (if s.flushOnSend = true then 1 else 0) + 1 + 1 := by
    split <;> rfl
  have hop : Op.write ≠ .flush := by decide
  rw [hsteps, run_succ _ hstart]
  exact (run_add _ 1 (run_send (rest := .answer (.count c) :: rest) hop rfl)).trans
    (run_succ 0 (step_count_of_write rfl rfl rfl))

/-- Settles O31, from WRITE's start, its encoding and its run. -/
theorem writeCommandSendsItsFrame : Obligations.WriteCommandSendsItsFrame := by
  refine ⟨fun func lc s hidle => ?start, fun w => decodeCmd_of_masked decodeCmd_cmdWord_write,
    fun func lc c rest s hidle henv => ?run⟩
  case start =>
    rw [exec_write_idle func lc hidle]
    rfl
  case run =>
    rw [run_write hidle henv, length_buildFrame]
    rfl

/-! ## FLUSH -/

/-- Settles O35: the command's step and then its answer's. -/
theorem flushCommandRuns : Obligations.FlushCommandRuns := by
  refine ⟨fun func lc s hidle => exec_flush_idle func lc hidle,
    fun w => decodeCmd_of_masked decodeCmd_cmdWord_flush, fun func lc rest s hidle henv => ?run⟩
  case run =>
    have hstart :=
      (step_writeCommand (decodeCmd_cmdWord_flush func lc) henv).trans (exec_flush_idle func lc hidle)
    refine ⟨_, ?steps, rfl, fun hoverrun => ?status⟩
    case steps =>
      calc Sys2Proof.core.run 2 s
        _ = Sys2Proof.core.run 1 _ := run_succ 1 hstart
        _ = Sys2Proof.core.run 0 _ := run_succ 0 (step_flushAck_flush rfl rfl rfl)
    case status =>
      rw [readSlot_status, statusWord]
      dsimp only
      rw [hoverrun]
      decide

/-! ## Illegal words -/

/-- Settles O36; the two ways to be illegal are the decoder's. -/
theorem illegalWordCompletesWithItsError : Obligations.IllegalWordCompletesWithItsError := by
  refine ⟨fun w s hidle hw => ⟨?decoded, ?effect⟩, fun s hidle hoverrun => ?vector, fun w s hbusy => ?busy⟩
  case decoded => exact hw.elim decodeCmd_of_op_seven decodeCmd_of_reserved
  case effect =>
    rw [exec_illegal_idle hidle, finish_none_eq]
    rfl
  case vector =>
    refine ⟨_, exec_illegal_idle hidle _, ?_⟩
    rw [readSlot_status, finish_none_eq, statusWord]
    dsimp only [clearForStart]
    rw [hoverrun]
    decide
  case busy => rw [exec_illegal, startCommand_busy _ hbusy, dropWrite]

end Sys2Proof.Machine

/-! An attempt of the Command Session (R266 to R275): the verdict and the bookkeeping of the model against the spec's
own pseudocode, what no attempt touches, and the obligations about it. -/

namespace Sys2Proof.Machine

/-! ## The verdict on a completed frame (R191) -/

/-- The identifier in byte 1, as R191 and R270 compute it. -/
theorem identOf_toNat_mod (b : Byte) : (identOf b).toNat = b.toNat % 32 := by
  rw [identOf, BitVec.extractLsb'_toNat, Nat.shiftRight_zero]

/-- The low seven bits of a byte, as a word. -/
theorem ofNat_mod_128 (b : Byte) : BitVec.ofNat 32 (b.toNat % 128) = (low7 b).setWidth 32 := by
  rw [← low7_toNat, BitVec.ofNat_toNat]

/-- Two bytes read as one big-endian number are a half of a GearPair (R193). -/
theorem ofNat_bigEndian_pair (a b : Byte) : BitVec.ofNat 32 (bigEndian [a, b]) = pair14 a b := by
  apply BitVec.eq_of_toNat_eq
  rw [pair14, BitVec.toNat_setWidth_of_le (by decide), BitVec.toNat_append,
    ← Nat.shiftLeft_add_eq_or_of_lt (low7 b).isLt, Nat.shiftLeft_eq, low7_toNat, low7_toNat, BitVec.toNat_ofNat]
  simp only [bigEndian, List.foldl_cons, List.foldl_nil]
  omega

/-- The payload of a complete frame has one byte more than its length code says (R95). -/
theorem length_payloadOf {f : List Byte} (hf : frameComplete f = true) :
    (payloadOf f).length = (lenCodeOf (f.getD 1 0)).toNat + 1 := by
  obtain ⟨-, hlen⟩ := (frameComplete_iff f).mp hf
  rw [payloadOf, List.length_dropLast, List.length_drop]
  omega

/-- The halves of a GearPair are the two big-endian numbers of its four payload bytes (R193, R224). -/
theorem gear_eq_bigEndian {ps : List Byte} (h : ps.length = 4) :
    gear ps = (BitVec.ofNat 32 (bigEndian (ps.take 2)), BitVec.ofNat 32 (bigEndian (ps.drop 2))) := by
  match ps, h with
  | [a, b, c, d], _ => exact (congrArg₂ Prod.mk (ofNat_bigEndian_pair a b) (ofNat_bigEndian_pair c d)).symm

/-- The decoder as R191 writes it and the verdicts of the inbound rows agree on every complete frame: the same classes
of identifiers in the same order, and in each the same value. -/
theorem specDecode_eq_rxVerdict {f : List Byte} (hf : frameComplete f = true) :
    specDecode f = rxVerdict (identOf (f.getD 1 0)) (lenCodeOf (f.getD 1 0)) f := by
  have hlc : (f.getD 1 0).toNat / 32 % 4 = (lenCodeOf (f.getD 1 0)).toNat := by
    rw [lenCodeOf, BitVec.extractLsb'_toNat, Nat.shiftRight_eq_div_pow]
  rw [specDecode, ← identOf_toNat_mod, hlc, rxVerdict]
  generalize identOf (f.getD 1 0) = fid
  refine if_congr (by bv_omega) rfl <| if_congr (by bv_omega) rfl <| if_congr (by bv_omega) ?scalar <|
    if_congr (by bv_omega) ?gear <| if_congr (by bv_omega) ?status <| if_congr (by bv_omega) ?config ?signed
  case scalar =>
    rw [scalarVerdict, requireLength, ofNat_mod_128]
    exact if_congr (by bv_omega) rfl rfl
  case gear =>
    rw [gearVerdict, requireLength]
    refine ite_congr (propext (by bv_omega)) (fun _ => rfl) fun hthree => ?_
    have hlen : (payloadOf f).length = 4 := by rw [length_payloadOf hf, not_not.mp hthree]; rfl
    rw [gear_eq_bigEndian hlen]
    rfl
  case status =>
    rw [statusVerdict, requireLength, ofNat_mod_128]
    exact if_congr (by bv_omega) rfl rfl
  case config =>
    rw [configVerdict, requireLength, ofNat_mod_128]
    exact if_congr (by bv_omega) rfl rfl
  case signed =>
    have hlen : f.length - Config.frameOverhead = (payloadOf f).length := by
      rw [payloadOf, List.length_dropLast, List.length_drop, Nat.sub_sub]
      rfl
    rw [signedVerdict, hlen]
    rfl

/-! ## The end of an attempt (R270, R271) -/

/-- What the end of an attempt records whatever its verdict (R271). -/
def noteOutcome (o : Outcome) (s : State) : State :=
  match o with
  | .frame f => noteFrame f (countAttempt s)
  | .timeout => countAttempt s
  | .fail => countAttempt s

/-- The flag that a verdict sets (R270). -/
def noteFlag (flag : SawFlag) (s : State) : State :=
  match flag with
  | .none => s
  | .timeout => noteTimeout s
  | .cksum => noteCksum s
  | .nonmatch => noteNonmatch s

@[simp] theorem noteOutcome_op (o : Outcome) (s : State) : (noteOutcome o s).op = s.op := by cases o <;> rfl

@[simp] theorem noteFlag_op (flag : SawFlag) (s : State) : (noteFlag flag s).op = s.op := by cases flag <;> rfl

section
variable {o : Outcome} {s : State} {flag : SawFlag}

/-- A verdict without a value completes the command. -/
theorem specEndAttempt_of_done {e : ErrCode} (h : specClassify o s.op s.expf = (.done e none, flag)) :
    specEndAttempt o s = finish e none (noteFlag flag (noteOutcome o s)) := by
  simp only [specEndAttempt, h, finish_none_eq]
  cases o <;> cases flag <;> rfl

/-- A value completes the command with itself as the result. -/
theorem specEndAttempt_of_value {v : Value} (h : specClassify o s.op s.expf = (.done .ok (some v), flag)) :
    specEndAttempt o s = finish .ok (some v) (noteFlag flag (noteOutcome o s)) := by
  simp only [specEndAttempt, h, finish_value_eq]
  cases o <;> cases flag <;> rfl

/-- A failed attempt is retried, or exhausts the command. -/
theorem specEndAttempt_of_retry (h : specClassify o s.op s.expf = (.retry, flag)) :
    specEndAttempt o s = retryOrExhaust (noteFlag flag (noteOutcome o s)) := by
  simp only [specEndAttempt, h, retryOrExhaust, finish_none_eq, exhaustCode]
  cases o <;> cases flag <;> rfl

end

/-! ### The verdicts of `classify` -/

section
variable {f : List Byte} {op : Op} {d : Ident}

/-- Under RECV, or with the expected identifier, a decoded value is the verdict. -/
theorem specClassify_value {v : Value} (hsum : cksOk f = true) (hv : specDecode f = .value v)
    (h : op = .recv ∨ identOf (f.getD 1 0) = d) : specClassify (.frame f) op d = (.done .ok (some v), .none) := by
  rcases h with rfl | rfl <;> simp [specClassify, hsum, hv, identOf_toNat_mod]

/-- Under RECV, or with the expected identifier, a wrong length is the verdict. -/
theorem specClassify_length (hsum : cksOk f = true) (hv : specDecode f = .lengthMismatch)
    (h : op = .recv ∨ identOf (f.getD 1 0) = d) : specClassify (.frame f) op d = (.done .length none, .none) := by
  rcases h with rfl | rfl <;> simp [specClassify, hsum, hv, identOf_toNat_mod]

theorem specClassify_recv_unallowed (hsum : cksOk f = true) (hv : specDecode f = .unallowed) :
    specClassify (.frame f) .recv d = (.done .unallowed none, .none) := by
  simp [specClassify, hsum, hv]

theorem specClassify_recv_unknown (hsum : cksOk f = true) (hv : specDecode f = .unknown) :
    specClassify (.frame f) .recv d = (.done .unrecognized none, .none) := by
  simp [specClassify, hsum, hv]

/-- Another identifier than the expected one, or one without a value, is a non-matching frame. -/
theorem specClassify_nonMatch (hsum : cksOk f = true) (hop : op ≠ .recv)
    (h : identOf (f.getD 1 0) ≠ d ∨ specDecode f = .unallowed ∨ specDecode f = .unknown) :
    specClassify (.frame f) op d = (.retry, .nonmatch) := by
  by_cases hident : identOf (f.getD 1 0) = d
  · rcases h.resolve_left (not_not_intro hident) with hv | hv <;> simp [specClassify, hsum, hop, hv]
  · have hnumber : (f.getD 1 0).toNat % 32 ≠ d.toNat := by
      rw [← identOf_toNat_mod]
      exact mt BitVec.eq_of_toNat_eq hident
    rw [specClassify, if_neg (by simp [hsum]), if_neg hop, if_pos hnumber]

theorem specClassify_recv_checksum (hsum : cksOk f = false) :
    specClassify (.frame f) .recv d = (.done .checksum none, .cksum) := by
  simp [specClassify, hsum]

theorem specClassify_checksum (hsum : cksOk f = false) (hop : op ≠ .recv) :
    specClassify (.frame f) op d = (.retry, .cksum) := by
  simp [specClassify, hsum, hop]

theorem specClassify_recv_timeout : specClassify .timeout .recv d = (.done .timeout none, .timeout) := rfl

theorem specClassify_timeout (hop : op ≠ .recv) : specClassify .timeout op d = (.retry, .timeout) := if_neg hop

end

/-- A failed attempt, noted, is the spec's: RECV ends with the code, every other command retries. -/
theorem failAttempt_eq_specEndAttempt {o : Outcome} {e : ErrCode} {flag : SawFlag} {s : State}
    (hrecv : s.op = .recv → specClassify o s.op s.expf = (.done e none, flag))
    (hretry : s.op ≠ .recv → specClassify o s.op s.expf = (.retry, flag)) :
    failAttempt e (noteFlag flag (noteOutcome o s)) = specEndAttempt o s := by
  by_cases h : s.op = .recv
  · rw [failAttempt_recv (by simpa using h), specEndAttempt_of_done (hrecv h)]
  · rw [failAttempt_matching (by simpa using h), specEndAttempt_of_retry (hretry h)]

/-- A complete frame ends its attempt as the spec says: the checksum first, then the session's judgement of the
decoder's verdict (R270, R358). -/
theorem afterAttempt_frame {f : List Byte} (hf : frameComplete f = true) (s : State) :
    afterAttempt (.frame f) s = specEndAttempt (.frame f) s := by
  cases hsum : cksOk f with
  | false =>
    rw [afterAttempt, hsum]
    exact failAttempt_eq_specEndAttempt (flag := .cksum) (fun h => h ▸ specClassify_recv_checksum hsum)
      (specClassify_checksum hsum)
  | true =>
    rw [afterAttempt, if_pos hsum, ← specDecode_eq_rxVerdict hf]
    rcases rxJudge_cases (identOf (f.getD 1 0)) (specDecode f) (noteFrame f (countAttempt s)) with
      ⟨v, hv, hop, hjudge⟩ | ⟨hv, hop, hjudge⟩ | ⟨hv, hop, hjudge⟩ | ⟨hv, hop, hjudge⟩ | ⟨hop, hne, hjudge⟩ <;>
      rw [hjudge]
    · exact (specEndAttempt_of_value (s := s) (specClassify_value hsum hv hop)).symm
    · exact (specEndAttempt_of_done (s := s) (specClassify_length hsum hv hop)).symm
    · exact (specEndAttempt_of_done (s := s) (hop ▸ specClassify_recv_unallowed hsum hv)).symm
    · exact (specEndAttempt_of_done (s := s) (hop ▸ specClassify_recv_unknown hsum hv)).symm
    · exact (specEndAttempt_of_retry (s := s) (specClassify_nonMatch hsum hop hne)).symm

/-- An attempt that the reader ends, the session ends as the spec says (R271). -/
theorem afterAttempt_eq_specEndAttempt {acc acc' : List Byte} {a : ReadAnswer} {o : Outcome}
    (h : readerStep acc a = (acc', some o)) (s : State) : afterAttempt o s = specEndAttempt o s := by
  cases o with
  | fail => exact (specEndAttempt_of_done (o := .fail) (s := s) (flag := .none) rfl).symm
  | timeout =>
    exact failAttempt_eq_specEndAttempt (o := .timeout) (flag := .timeout) (fun h => h ▸ specClassify_recv_timeout)
      specClassify_timeout
  | frame f =>
    obtain ⟨-, -, -, -, -, hcomplete⟩ := readerStep_frame h
    exact afterAttempt_frame hcomplete s

/-! ## The step in READING (R267) -/

/-- An answer to `TRead1()` as the transport's answer. -/
def ReadAnswer.toAnswer (a : ReadAnswer) : TAnswer :=
  match a with
  | .byte b => .byte b
  | .timeout => .timeout
  | .fail => .fail

/-- In READING every answer to `TRead1()` moves the attempt (R267). -/
theorem step_reading {s : State} {a : ReadAnswer} {rest : List Event} (hses : s.ses = .reading)
    (h : s.pending = .answer a.toAnswer :: rest) : step s = .next (afterRead a { s with env := rest }) := by
  rw [step_pending h, ← onRead_eq]
  cases a with
  | byte b => exact deliver_byte b hses
  | timeout => exact deliver_timeout hses
  | fail => exact deliver_fail hses

/-- Settles O42. The premise on the expected identifier is not needed: the model and `specClassify` both take a matching
frame without a value as non-matching (log 8). -/
theorem readingFollowsTheSpecsPseudocode : Obligations.ReadingFollowsTheSpecsPseudocode := by
  intro s a rest hses _ hpending
  have hanswer : s.pending = .answer a.toAnswer :: rest := by
    rw [hpending]
    cases a <;> rfl
  rw [step_reading hses hanswer, afterRead]
  rcases hreader : readerStep s.acc a with ⟨acc', _ | o⟩
  · rfl
  · exact congrArg Host.Outcome.next (afterAttempt_eq_specEndAttempt hreader _)

/-! ## What no attempt touches (R275) -/

/-- From `s` to `t` nothing is sent and what is awaited stays: the session stays where it is, reads on or is over, the
sent frame, the command and the expected identifier are kept, and only inbound frames are observed. -/
structure AttemptKeeps (s t : State) : Prop where
  ses : t.ses = s.ses ∨ t.ses = .reading ∨ t.ses = .idle
  txf : t.txf = s.txf
  op : t.op = s.op
  expf : t.expf = s.expf
  obs : ∃ rs : List ObsRecord, t.obs = s.obs ++ rs ∧ ∀ r ∈ rs, r.dir = .rx

namespace AttemptKeeps
variable {s t u : State}

theorem trans (hst : AttemptKeeps s t) (htu : AttemptKeeps t u) : AttemptKeeps s u where
  ses := htu.ses.elim (fun h => h ▸ hst.ses) .inr
  txf := htu.txf.trans hst.txf
  op := htu.op.trans hst.op
  expf := htu.expf.trans hst.expf
  obs := by
    obtain ⟨rs, hrs, hdir⟩ := hst.obs
    obtain ⟨rs', hrs', hdir'⟩ := htu.obs
    refine ⟨rs ++ rs', by rw [hrs', hrs, List.append_assoc], fun r hr => ?_⟩
    exact (List.mem_append.mp hr).elim (hdir r) (hdir' r)

/-- An update of the state that touches none of it. -/
theorem of_eq (hses : t.ses = s.ses ∨ t.ses = .reading ∨ t.ses = .idle) (htxf : t.txf = s.txf) (hop : t.op = s.op)
    (hexpf : t.expf = s.expf) (hobs : t.obs = s.obs) : AttemptKeeps s t :=
  ⟨hses, htxf, hop, hexpf, [], by rw [hobs, List.append_nil], by simp⟩

end AttemptKeeps

theorem attemptKeeps_countAttempt (s : State) : AttemptKeeps s (countAttempt s) :=
  .of_eq (.inl rfl) rfl rfl rfl rfl

theorem attemptKeeps_noteTimeout (s : State) : AttemptKeeps s (noteTimeout s) :=
  .of_eq (.inl rfl) rfl rfl rfl rfl

theorem attemptKeeps_noteCksum (s : State) : AttemptKeeps s (noteCksum s) :=
  .of_eq (.inl rfl) rfl rfl rfl rfl

theorem attemptKeeps_noteNonmatch (s : State) : AttemptKeeps s (noteNonmatch s) :=
  .of_eq (.inl rfl) rfl rfl rfl rfl

theorem attemptKeeps_setAcc (acc : List Byte) (s : State) : AttemptKeeps s { s with acc := acc } :=
  .of_eq (.inl rfl) rfl rfl rfl rfl

theorem attemptKeeps_beginAttempt (s : State) : AttemptKeeps s (beginAttempt s) :=
  .of_eq (.inr (.inl rfl)) rfl rfl rfl rfl

theorem attemptKeeps_finish_none (e : ErrCode) (s : State) : AttemptKeeps s (finish e none s) :=
  .of_eq (.inr (.inr (finish_none_ses e s))) (finish_none_txf e s) (finish_none_op e s) (finish_none_expf e s)
    (finish_none_obs e s)

theorem attemptKeeps_finish_value (v : Value) (s : State) : AttemptKeeps s (finish .ok (some v) s) :=
  .of_eq (.inr (.inr rfl)) rfl rfl rfl rfl

/-- The bookkeeping of a frame observes it, inbound (R271, R380). -/
theorem attemptKeeps_noteFrame (f : List Byte) (s : State) : AttemptKeeps s (noteFrame f s) where
  ses := .inl rfl
  txf := rfl
  op := rfl
  expf := rfl
  obs := by
    cases hdebug : s.debug with
    | false => exact ⟨[], by simp [hdebug], by simp⟩
    | true => exact ⟨[⟨.rx, f⟩], by simp [hdebug], by simp⟩

theorem attemptKeeps_retryOrExhaust (s : State) : AttemptKeeps s (retryOrExhaust s) := by
  rcases retryOrExhaust_cases s with ⟨_, h⟩ | ⟨_, h⟩ <;> rw [h]
  · exact attemptKeeps_beginAttempt s
  · exact attemptKeeps_finish_none _ s

theorem attemptKeeps_failAttempt (e : ErrCode) (s : State) : AttemptKeeps s (failAttempt e s) := by
  by_cases hrecv : s.op = .recv
  · rw [failAttempt_recv hrecv]
    exact attemptKeeps_finish_none e s
  · rw [failAttempt_matching hrecv]
    exact attemptKeeps_retryOrExhaust s

theorem attemptKeeps_rxJudge (fid : Ident) (v : Verdict) (s : State) : AttemptKeeps s (rxJudge fid v s) := by
  rcases rxJudge_cases fid v s with ⟨x, _, _, h⟩ | ⟨_, _, h⟩ | ⟨_, _, h⟩ | ⟨_, _, h⟩ | ⟨_, _, h⟩ <;> rw [h]
  · exact attemptKeeps_finish_value x s
  · exact attemptKeeps_finish_none _ s
  · exact attemptKeeps_finish_none _ s
  · exact attemptKeeps_finish_none _ s
  · exact (attemptKeeps_noteNonmatch s).trans (attemptKeeps_retryOrExhaust _)

theorem attemptKeeps_afterAttempt (o : Outcome) (s : State) : AttemptKeeps s (afterAttempt o s) := by
  cases o with
  | fail =>
    rw [afterAttempt]
    exact (attemptKeeps_countAttempt s).trans (attemptKeeps_finish_none _ _)
  | timeout =>
    exact ((attemptKeeps_countAttempt s).trans (attemptKeeps_noteTimeout _)).trans (attemptKeeps_failAttempt _ _)
  | frame f =>
    have hnoted := (attemptKeeps_countAttempt s).trans (attemptKeeps_noteFrame f _)
    rw [afterAttempt]
    split
    · exact hnoted.trans (attemptKeeps_rxJudge _ _ _)
    · exact (hnoted.trans (attemptKeeps_noteCksum _)).trans (attemptKeeps_failAttempt _ _)

theorem attemptKeeps_afterRead (a : ReadAnswer) (s : State) : AttemptKeeps s (afterRead a s) := by
  rw [afterRead]
  split
  · exact attemptKeeps_setAcc _ s
  · exact (attemptKeeps_setAcc _ s).trans (attemptKeeps_afterAttempt _ _)

/-- In READING an answer that is none to `TRead1()` does not fit (R75). -/
theorem answerFits_reading (a : TAnswer) : answerFits .reading a = false ∨ ∃ r : ReadAnswer, a = r.toAnswer := by
  cases a with
  | flushAck => exact .inl rfl
  | count c => exact .inl rfl
  | byte b => exact .inr ⟨.byte b, rfl⟩
  | timeout => exact .inr ⟨.timeout, rfl⟩
  | fail => exact .inr ⟨.fail, rfl⟩

/-- In READING a step on any transport answer, one that fits or one that is dropped, stays within the attempts. -/
theorem step_reading_keeps {s t : State} {a : TAnswer} {rest : List Event} (hses : s.ses = .reading)
    (h : s.pending = .answer a :: rest) (hstep : step s = .next t) : AttemptKeeps { s with env := rest } t := by
  rcases answerFits_reading a with hmisfit | ⟨r, rfl⟩
  · have hdropped : step s = .next { s with env := rest } :=
      (step_pending h).trans (deliver_misfit (by rw [hses]; exact hmisfit))
    obtain rfl := Host.Outcome.next.inj (hdropped.symm.trans hstep)
    exact .of_eq (.inl rfl) rfl rfl rfl rfl
  · obtain rfl := Host.Outcome.next.inj ((step_reading hses h).symm.trans hstep)
    exact attemptKeeps_afterRead r _

/-- Settles O43: what an attempt keeps, and no request but a read where it stays. -/
theorem retriesNeverResend : Obligations.RetriesNeverResend := by
  intro s t a rest hses hpending hstep
  obtain ⟨hkept, htxf, hop, hexpf, hobs⟩ := step_reading_keeps hses hpending hstep
  have hsession : t.ses = .reading ∨ t.ses = .idle := hkept.elim (fun h => .inl (h.trans hses)) id
  refine ⟨hsession, ?flush, ?write, htxf, hop, hexpf, hobs⟩
  all_goals rcases hsession with h | h <;> simp [State.request, h]

end Sys2Proof.Machine

/-! What a completion does with a value that comes with an error (R356), and the obligation about completions. -/

namespace Sys2Proof.Machine

/-- Only OK writes the result registers: a value that comes with an error is dropped (R356). -/
theorem finish_error_drops_value {e : ErrCode} (he : e ≠ .ok) (v : Value) (s : State) :
    finish e (some v) s = finish e none s := by
  cases e with
  | ok => exact absurd rfl he
  | _ => rfl

/-- Settles O56. -/
theorem completionIsFinish : Obligations.CompletionIsFinish := by
  intro s e v
  refine ⟨finish_none_eq e s, finish_value_eq v s, fun he => ?_⟩
  rw [finish_error_drops_value he, finish_none_eq]

end Sys2Proof.Machine

/-! What the host can do while a command is in progress (R420), and the obligation about it. -/

namespace Sys2Proof.Machine

/-- STATUS shows OVERRUN in bit 30, reached by dropping the fields to its right (R29). -/
theorem statusWord_bit30 (s : State) : (statusWord s).getLsbD 30 = s.overrun := by
  simp only [statusWord, BitVec.getLsbD_append]
  simp

/-- Settles O37: the busy writes slot by slot, the dropped command words and the bit that reports the loss. -/
theorem writesWhileBusyAreDropped : Obligations.WritesWhileBusyAreDropped := by
  intro s v hbusy
  obtain ⟨-, hdropped, hstatus, hslots⟩ := hostWritesBySlot s v
  obtain ⟨hconfig, hpayload, hcommand⟩ := hdropped hbusy
  exact ⟨hconfig, hpayload, hcommand, exec_decodeCmd_busy v hbusy, hstatus, fun idx => (hslots idx).1, statusWord_bit30 s⟩

end Sys2Proof.Machine

/-! The encoder and the decoder against each other, over the three encoding spaces (R92, R100, R105). -/

namespace Sys2Proof

/-! ## Words that spell no command -/

/-- A word spells no command exactly when its OP is 7 or one of its three reserved fields is set (R104). -/
theorem isIllegalWord_iff (w : Word) :
    isIllegalWord w = true ↔
      w.extractLsb' 0 3 = 7#3 ∨ w.extractLsb' 3 5 ≠ 0 ∨ w.extractLsb' 13 3 ≠ 0 ∨ w.extractLsb' 18 14 ≠ 0 := by
  have hmask : w &&& 0xFFFCE0F8#32 = 0#32 ↔
      w.extractLsb' 3 5 = 0 ∧ w.extractLsb' 13 3 = 0 ∧ w.extractLsb' 18 14 = 0 := by
    constructor
    · intro h
      have field {i k : Nat} (hm : (0xFFFCE0F8#32).extractLsb' i k = BitVec.allOnes k) :
          w.extractLsb' i k = 0 := by
        rw [← extractLsb'_and_of_allOnes w hm, h, BitVec.extractLsb'_zero]
        rfl
      exact ⟨field (by decide), field (by decide), field (by decide)⟩
    · rintro ⟨h73, h1513, h3118⟩
      have hword : w &&& 0xFFFCE0FF#32 = (w.extractLsb' 0 3).setWidth 32 := by
        conv_lhs => rw [eq_cmdWord_of_reserved_eq_zero h73 h1513 h3118]
        exact Laws.cmdWord_masked ..
      rw [show 0xFFFCE0F8#32 = 0xFFFCE0FF#32 &&& 0xFFFFFFF8#32 by decide, ← BitVec.and_assoc, hword]
      generalize w.extractLsb' 0 3 = op
      revert op
      decide
  rw [isIllegalWord, Bool.or_eq_true, beq_iff_eq, bne_iff_ne, Ne, hmask]
  tauto

/-- A word that spells no command decodes to itself as an illegal word (R105). -/
theorem decodeCmd_of_isIllegalWord {w : Word} (h : isIllegalWord w = true) : decodeCmd w = .illegal w :=
  ((isIllegalWord_iff w).mp h).elim decodeCmd_of_op_seven decodeCmd_of_reserved

/-- A word that spells a command is the command word of its fields, with a legal OP (R105). -/
theorem eq_cmdWord_of_not_isIllegalWord {w : Word} (h : isIllegalWord w = false) :
    ∃ op func lc, w = cmdWord op func lc ∧ op ≠ 7#3 := by
  rw [← Bool.not_eq_true, isIllegalWord_iff] at h
  push Not at h
  obtain ⟨hop, h73, h1513, h3118⟩ := h
  exact ⟨_, _, _, eq_cmdWord_of_reserved_eq_zero h73 h1513 h3118, hop⟩

/-! ## The rows of byte 1 -/

@[simp] theorem encode_txInstr (f : Ident) (lc : LenCode) : encode (txInstr f lc) = .tx (byte1 f lc) := by
  revert f
  refine Machine.ident_cases fun n => ?_
  fin_cases n <;> rfl

@[simp] theorem encode_rxInstr (f : Ident) (lc : LenCode) : encode (rxInstr f lc) = .rx (byte1 f lc) := by
  revert f
  refine Machine.ident_cases fun n => ?_
  fin_cases n <;> rfl

@[simp] theorem wellFormed_txInstr (f : Ident) (lc : LenCode) : (txInstr f lc).wellFormed = true := by
  revert f
  refine Machine.ident_cases fun n => ?_
  fin_cases n <;> rfl

@[simp] theorem wellFormed_rxInstr (f : Ident) (lc : LenCode) : (rxInstr f lc).wellFormed = true := by
  revert f
  refine Machine.ident_cases fun n => ?_
  fin_cases n <;> rfl

/-- A byte with the marker is the byte 1 of its two fields (R92). -/
theorem byte1_identOf_lenCodeOf {b : Byte} (h : isContinuation b = true) : byte1 (identOf b) (lenCodeOf b) = b := by
  revert b
  decide

/-- An instruction encoded as an outbound byte 1 is the outbound row of an identifier and a length code. -/
theorem exists_txInstr_of_encode_eq {i : Instr} {b : Byte} (h : encode i = .tx b) : ∃ f lc, i = txInstr f lc := by
  refine ⟨identOf b, lenCodeOf b, ?_⟩
  cases i <;> cases h <;> rw [identOf_byte1, lenCodeOf_byte1] <;> rfl

/-- An instruction encoded as an inbound byte 1 is the inbound row of an identifier and a length code. -/
theorem exists_rxInstr_of_encode_eq {i : Instr} {b : Byte} (h : encode i = .rx b) : ∃ f lc, i = rxInstr f lc := by
  refine ⟨identOf b, lenCodeOf b, ?_⟩
  cases i <;> cases h <;> rw [identOf_byte1, lenCodeOf_byte1] <;> rfl

/-- A well-formed instruction encoded as a command word is what that word decodes to (R105). -/
theorem decodeCmd_of_encode_eq {i : Instr} {w : Word} (hi : i.wellFormed = true) (h : encode i = .cmd w) :
    decodeCmd w = i := by
  cases i with
  | illegal v =>
    obtain rfl := Code.cmd.inj h
    exact decodeCmd_of_isIllegalWord hi
  | encode func lc => exact Code.cmd.inj h ▸ decodeCmd_cmdWord_encode func lc
  | write func lc => exact Code.cmd.inj h ▸ decodeCmd_cmdWord_write func lc
  | read func lc => exact Code.cmd.inj h ▸ decodeCmd_cmdWord_read func lc
  | gread func lc => exact Code.cmd.inj h ▸ decodeCmd_cmdWord_gread func lc
  | await func lc => exact Code.cmd.inj h ▸ decodeCmd_cmdWord_await func lc
  | recv func lc => exact Code.cmd.inj h ▸ decodeCmd_cmdWord_recv func lc
  | flush func lc => exact Code.cmd.inj h ▸ decodeCmd_cmdWord_flush func lc
  | _ => cases h

/-- Settles O1, space by space: a command word by its fields, a byte 1 as the row of its identifier. -/
theorem decodeOfEncodeIsTheInstruction : Obligations.DecodeOfEncodeIsTheInstruction := by
  intro i hi
  cases hcode : encode i with
  | cmd w => exact congrArg Except.ok (decodeCmd_of_encode_eq hi hcode)
  | tx b =>
    obtain ⟨f, lc, rfl⟩ := exists_txInstr_of_encode_eq hcode
    rw [← hcode, encode_txInstr]
    exact decodeTx_byte1 f lc
  | rx b =>
    obtain ⟨f, lc, rfl⟩ := exists_rxInstr_of_encode_eq hcode
    rw [← hcode, encode_rxInstr]
    exact decodeRx_byte1 f lc

/-- What a legal OP's command word decodes to is well formed and encodes back to the word (R105). -/
theorem encode_decodeCmd_cmdWord {op : BitVec 3} (func : Ident) (lc : LenCode) (hop : op ≠ 7#3) :
    (decodeCmd (cmdWord op func lc)).wellFormed = true ∧
      encode (decodeCmd (cmdWord op func lc)) = .cmd (cmdWord op func lc) := by
  have hops : op = 0#3 ∨ op = 1#3 ∨ op = 2#3 ∨ op = 3#3 ∨ op = 4#3 ∨ op = 5#3 ∨ op = 6#3 := by bv_omega
  rcases hops with rfl | rfl | rfl | rfl | rfl | rfl | rfl <;> simp [encode, Instr.wellFormed]

/-- Every command word decodes to a well-formed instruction that encodes back to it (R105). -/
theorem encode_decodeCmd (w : Word) : (decodeCmd w).wellFormed = true ∧ encode (decodeCmd w) = .cmd w := by
  cases hw : isIllegalWord w with
  | true =>
    rw [decodeCmd_of_isIllegalWord hw]
    exact ⟨hw, rfl⟩
  | false =>
    obtain ⟨op, func, lc, rfl, hop⟩ := eq_cmdWord_of_not_isIllegalWord hw
    exact encode_decodeCmd_cmdWord func lc hop

/-- What decodes as an outbound byte 1 has the marker, and is the row of its fields (R92, R97). -/
theorem decodeTx_eq_ok {b : Byte} {i : Instr} (h : decodeTx b = .ok i) :
    isContinuation b = true ∧ i = txInstr (identOf b) (lenCodeOf b) := by
  rw [decodeTx] at h
  split at h
  next hb => exact ⟨hb, (Except.ok.inj h).symm⟩
  next => cases h

/-- What decodes as an inbound byte 1 has the marker, and is the row of its fields (R92, R97). -/
theorem decodeRx_eq_ok {b : Byte} {i : Instr} (h : decodeRx b = .ok i) :
    isContinuation b = true ∧ i = rxInstr (identOf b) (lenCodeOf b) := by
  rw [decodeRx] at h
  split at h
  next hb => exact ⟨hb, (Except.ok.inj h).symm⟩
  next => cases h

/-- Settles O2, space by space; a byte that decodes has the marker, and so is the byte 1 of its fields. -/
theorem encodeOfDecodeIsTheCode : Obligations.EncodeOfDecodeIsTheCode := by
  intro c i h
  cases c with
  | cmd w =>
    obtain rfl := Except.ok.inj h
    exact encode_decodeCmd w
  | tx b =>
    obtain ⟨hb, rfl⟩ := decodeTx_eq_ok h
    exact ⟨wellFormed_txInstr .., by rw [encode_txInstr, byte1_identOf_lenCodeOf hb]⟩
  | rx b =>
    obtain ⟨hb, rfl⟩ := decodeRx_eq_ok h
    exact ⟨wellFormed_rxInstr .., by rw [encode_rxInstr, byte1_identOf_lenCodeOf hb]⟩

/-- Settles O4: each word is the encoding of its instruction, and 0x39 has no marker. -/
theorem writtenOutWordsDecode : Obligations.WrittenOutWordsDecode :=
  ⟨decodeCmd_cmdWord_encode 0x10#5 3#2, decodeCmd_cmdWord_gread 0x1b#5 0#2, decodeCmd_cmdWord_recv 0x1f#5 3#2,
    decodeCmd_of_reserved (by decide), decodeTx_byte1 0x10#5 1#2, decodeTx_byte1 0x0e#5 0#2, decodeRx_byte1 0x18#5 3#2,
    decodeRx_byte1 0x1e#5 1#2, rfl⟩

end Sys2Proof

/-! The laws of the checksum, the shape of an encoded frame and its way through the Frame Reader (R132 to R137, R169),
and the obligations about them. -/

namespace Sys2Proof.Machine

/-! ## The laws of the checksum -/

/-- The checksum is a sum of seven-bit numbers: of each byte it takes the low seven bits. -/
theorem cks7_cons (b : Byte) (bs : List Byte) : cks7 (b :: bs) = low7 b + cks7 bs := by
  apply BitVec.eq_of_toNat_eq
  rw [BitVec.toNat_add, cks7_toNat, cks7_toNat, low7_toNat, sumBytes, List.map_cons, List.sum_cons, ← sumBytes]
  omega

/-- Bit 7 of a byte is none of its low seven bits. -/
theorem low7_and_127 (b : Byte) : low7 (b &&& 0x7f#8) = low7 b := extractLsb'_and_of_allOnes b (by decide)

/-- Settles O10: byte by byte only the low seven bits are added, and the sum does not depend on the order. -/
theorem checksumIgnoresHighBitsAndOrder : Obligations.ChecksumIgnoresHighBitsAndOrder := by
  refine ⟨fun bs => ?highBits, fun bs cs hperm => ?order⟩
  case highBits =>
    induction bs with
    | nil => rfl
    | cons b bs ih => rw [List.map_cons, cks7_cons, cks7_cons, low7_and_127, ih]
  case order =>
    rw [cks7, cks7, sumBytes, sumBytes, (hperm.map BitVec.toNat).sum_eq]

/-! ## Continuation bytes -/

@[simp] theorem isContinuation_contByte (v : Val7) : isContinuation (contByte v) = true := by
  simp [isContinuation, contByte]

@[simp] theorem low7_contByte (v : Val7) : low7 (contByte v) = v := by
  revert v
  decide

/-! ## Encoded frames -/

/-- Settles O9: the last byte carries the checksum of all the bytes before it. -/
theorem encodedFramesPassTheChecksum : Obligations.EncodedFramesPassTheChecksum := by
  intro drive func lc vals
  rw [cksOk_iff]
  simp [encodeFrame]

/-- Byte 0 of an encoded frame is the drive address alone (R131). -/
theorem encodeFrame_byte0 (drive : DriveAddr) (func : Ident) (lc : LenCode) (vals : List Val7) :
    (encodeFrame drive func lc vals).getD 0 0 = drive.setWidth 8 := rfl

/-- Byte 1 of an encoded frame (R131). -/
theorem encodeFrame_byte1 (drive : DriveAddr) (func : Ident) (lc : LenCode) (vals : List Val7) :
    (encodeFrame drive func lc vals).getD 1 0 = byte1 func lc := rfl

/-- From byte 1 on an encoded frame consists of continuation bytes (R132). -/
theorem isContinuation_of_mem_encodeFrame {drive : DriveAddr} {func : Ident} {lc : LenCode} {vals : List Val7}
    {b : Byte} (hb : b ∈ (encodeFrame drive func lc vals).drop 1) : isContinuation b = true := by
  have hcases : b = byte1 func lc ∨ (∃ v ∈ vals, contByte v = b) ∨
      b = contByte (cks7 (frameBody drive func lc vals)) := by
    simpa [encodeFrame, frameBody] using hb
  rcases hcases with rfl | ⟨v, -, rfl⟩ | rfl
  · exact isContinuation_byte1 func lc
  · exact isContinuation_contByte v
  · exact isContinuation_contByte _

/-- An encoded frame with as many values as its length code says has the wire shape (R132). -/
theorem frameShape_encodeFrame {lc : LenCode} {vals : List Val7} (hvals : vals.length = lc.toNat + 1)
    (drive : DriveAddr) (func : Ident) : FrameShape (encodeFrame drive func lc vals) := by
  refine ⟨?length, ?start, fun b => isContinuation_of_mem_encodeFrame⟩
  case length =>
    rw [length_encodeFrame, hvals, encodeFrame_byte1, lenCodeOf_byte1]
    omega
  case start =>
    rw [encodeFrame_byte0]
    simp [isContinuation]

/-- Settles O7, from the frame's shape and its first two bytes. -/
theorem encodedFramesHaveTheFrameShape : Obligations.EncodedFramesHaveTheFrameShape := by
  intro drive func lc vals hvals
  refine ⟨frameShape_encodeFrame hvals drive func, ?length, ?drive, lenCodeOf_byte1 func lc⟩
  case length =>
    rw [length_encodeFrame, hvals]
    omega
  case drive =>
    rw [encodeFrame_byte0]
    revert drive
    decide

/-- Settles O14: the reader completes any frame of the wire shape, and the checksum holds of every encoded one. -/
theorem encodedFrameIsReadBack : Obligations.EncodedFrameIsReadBack := by
  intro drive func lc vals hvals
  refine ⟨?_, encodedFramesPassTheChecksum drive func lc vals⟩
  simpa using (frameShape_encodeFrame hvals drive func).readBytes_append [] []

/-! ## The shape of the accumulator -/

/-- What the reader collects, whole or not: a start byte and continuation bytes after it. -/
structure CollectShape (acc : List Byte) : Prop where
  start : isContinuation (acc.getD 0 0) = false
  continuations : ∀ b ∈ acc.drop 1, isContinuation b = true

/-- A continuation byte after a partial frame keeps its bytes in shape, and is at most the last one announced. -/
theorem AccShape.append {acc : List Byte} {b : Byte} (hacc : AccShape acc) (hne : acc ≠ [])
    (hb : isContinuation b = true) :
    CollectShape (acc ++ [b]) ∧ (acc ++ [b]).length ≤ 4 + (lenCodeOf ((acc ++ [b]).getD 1 0)).toNat := by
  obtain ⟨hstart, hcont, hlen⟩ := hacc.resolve_left hne
  match acc, hne with
  | [a], _ => exact ⟨⟨hstart, by simpa using hb⟩, by simp only [List.length_append, List.length_singleton]; omega⟩
  | a :: c :: as, _ =>
    have hshort : (a :: c :: as).length < 4 + (lenCodeOf c).toNat := hlen (by simp)
    refine ⟨⟨hstart, ?_⟩, by simpa using hshort⟩
    simpa [or_imp, forall_and, hb] using hcont

/-- Bytes in shape that are not more than announced are a frame or a partial one, as `frameComplete` tells (R163). -/
theorem endOrGoOn_shape {acc : List Byte} (h : CollectShape acc)
    (hlen : acc.length ≤ 4 + (lenCodeOf (acc.getD 1 0)).toNat) :
    (FrameShape acc ∧ endOrGoOn acc = ([], some (.frame acc))) ∨ (AccShape acc ∧ endOrGoOn acc = (acc, none)) := by
  rcases endOrGoOn_cases acc with ⟨hfull, hend⟩ | ⟨hpart, hend⟩
  · exact .inl ⟨⟨((frameComplete_iff acc).mp hfull).2, h.start, h.continuations⟩, hend⟩
  · refine .inr ⟨.inr ⟨h.start, h.continuations, fun htwo => lt_of_le_of_ne hlen fun heq => ?_⟩, hend⟩
    exact Bool.false_ne_true (hpart.symm.trans ((frameComplete_iff acc).mpr ⟨htwo, heq⟩))

/-- From a partial frame a byte gives a partial frame again or ends a frame of the wire shape (R163, R169). -/
theorem AccShape.readerStep_byte {acc : List Byte} (hacc : AccShape acc) (b : Byte) :
    (∃ acc', AccShape acc' ∧ readerStep acc (.byte b) = (acc', none)) ∨
      ∃ f, FrameShape f ∧ readerStep acc (.byte b) = ([], some (.frame f)) := by
  rcases Machine.readerStep_byte acc b with ⟨hb, hstep⟩ | ⟨-, -, hstep⟩ | ⟨hb, hne, hstep⟩
  · exact .inl ⟨[b], .inr ⟨hb, by simp, by simp⟩, hstep⟩
  · exact .inl ⟨[], .inl rfl, hstep⟩
  · obtain ⟨hshape, hlen⟩ := hacc.append hne hb
    rcases endOrGoOn_shape hshape hlen with ⟨hframe, hend⟩ | ⟨hpart, hend⟩
    · exact .inr ⟨_, hframe, hstep.trans hend⟩
    · exact .inl ⟨_, hpart, hstep.trans hend⟩

/-- A frame has at most 7 bytes (R95). -/
theorem FrameShape.length_le_seven {f : List Byte} (hf : FrameShape f) : f.length ≤ 7 := by
  obtain ⟨hlen, -, -⟩ := hf
  omega

/-- A partial frame has at most 6 bytes (R43). -/
theorem AccShape.length_le_six {acc : List Byte} (hacc : AccShape acc) : acc.length ≤ 6 := by
  rcases hacc with rfl | ⟨-, -, hlen⟩
  · simp
  · omega

/-- Settles O12, by the two ways a byte can go from a partial frame. -/
theorem completedFramesHaveTheFrameShape : Obligations.CompletedFramesHaveTheFrameShape := by
  intro acc b hacc
  rcases hacc.readerStep_byte b with ⟨acc1, hacc1, hstep⟩ | ⟨f1, hf1, hstep⟩ <;> rw [hstep]
  · refine ⟨by simp, ?_, by simp⟩
    rintro acc' ⟨⟩
    exact ⟨hacc1, hacc1.length_le_six⟩
  · refine ⟨?_, by simp, by simp⟩
    rintro acc' f ⟨⟩
    exact ⟨rfl, hf1, hf1.four_le_length, hf1.length_le_seven⟩

end Sys2Proof.Machine

/-! The SignedInteger as a two's-complement number (R192), and the obligation about it. -/

namespace Sys2Proof.Machine

/-- From bit n - 1 on, every bit of an n-bit two's-complement number in 32 bits is its sign. -/
theorem getLsbD_ofInt_toInt {n : Nat} (x : BitVec n) {j : Nat} (hj : n ≤ j + 1) (h32 : j < 32) :
    (BitVec.ofInt 32 x.toInt).getLsbD j = x.msb := by
  rw [← BitVec.signExtend, BitVec.getLsbD_signExtend]
  by_cases h : j < n
  · obtain rfl : j = n - 1 := by omega
    simp [h, h32, BitVec.msb_eq_getLsbD_last]
  · simp [h, h32]

/-- Settles O17, from the closed form: its range and its sign bits are those of a two's-complement number. -/
theorem signedIntegerIsTheSignExtendedPayload : Obligations.SignedIntegerIsTheSignExtendedPayload := by
  refine ⟨fun ps hone hfour => ?closed, fun b => ?head, fun ps b hps => ?append, by decide, by decide, by decide⟩
  case closed =>
    have hsdec := sdec_eq_toInt_bigEndian (List.ne_nil_of_length_pos hone)
    rw [hsdec]
    generalize BitVec.ofNat (7 * ps.length) (bigEndian ps) = x
    refine ⟨rfl, BitVec.le_toInt x, Int.le_sub_one_of_lt (BitVec.toInt_lt (x := x)), fun j hlo hhi => ?_⟩
    rw [getLsbD_ofInt_toInt x (by omega) hhi, getLsbD_ofInt_toInt x (by omega) (by omega)]
  case head =>
    revert b
    decide
  case append => rw [sdec_append hps, low7_toNat]

end Sys2Proof.Machine

/-! The identifier rows and the commands that run through them: frames of other identifiers (R270, R272), the outbound
identifiers under each latched command (R310 to R341), and READ, GREAD, AWAIT and RECV (R282 to R285). -/

namespace Sys2Proof.Machine

/-! ## Frames of another identifier -/

/-- A matching command takes a frame of another identifier as non-matching, whatever the decoder says of it (R270). -/
theorem rxJudge_nonMatch {fid : Ident} {s : State} (v : Verdict) (hop : s.op ≠ .recv) (hfid : fid ≠ s.expf) :
    rxJudge fid v s = nonMatch s := by
  rcases rxJudge_cases fid v s with ⟨_, _, h, _⟩ | ⟨_, h, _⟩ | ⟨_, h, _⟩ | ⟨_, h, _⟩ | ⟨_, _, h⟩
  · exact absurd h (not_or.mpr ⟨hop, hfid⟩)
  · exact absurd h (not_or.mpr ⟨hop, hfid⟩)
  · exact absurd h hop
  · exact absurd h hop
  · exact h

/-- Settles O20: every verdict on such a frame is the same judgement. -/
theorem nonMatchingFrameIsRetriedOrExhausts : Obligations.NonMatchingFrameIsRetriedOrExhausts := by
  intro f lc s hop hexpf
  rw [exec_rxInstr_eq, rxJudge_nonMatch _ hop.ne_recv hexpf.symm, nonMatch_eq]

/-! ## Outbound identifiers under the latched command -/

/-- An outbound identifier's row acts as `txPerform` says. -/
theorem exec_txInstr_eq (h : Ident) (lc : LenCode) (s : State) : exec (txInstr h lc) s = .next (txPerform h lc s) := by
  rw [exec_txInstr, txMeaning_eq]

/-- Sending, written out (R264, R265). -/
theorem send_eq (s : State) :
    send s =
      if s.flushOnSend = true then { s with busy := true, ses := .flushing }
      else
        { s with
          busy := true, ses := .writing
          obs := if s.debug = true then s.obs ++ [⟨.tx, s.txf⟩] else s.obs } := rfl

section
variable {h : Ident} (lc : LenCode) {s : State}

theorem txPerform_encode (hop : s.op = .encode) :
    txPerform h lc s = finish .ok none (storeFrame (buildFrame s h lc) s) := by rw [txPerform, hop]

theorem txPerform_write (hop : s.op = .write) : txPerform h lc s = send (storeFrame (buildFrame s h lc) s) := by
  rw [txPerform, hop]

/-- READ of an identifier without an entry in `HOST_MAP` (R282). -/
theorem txPerform_read_none (hop : s.op = .read) (hmap : s.hostMap[h.toFin] = none) :
    txPerform h lc s = finish .unknownFunc none s := by
  rw [txPerform, hop]
  simp only [hmap]

/-- READ of an identifier with an entry in `HOST_MAP` (R282). -/
theorem txPerform_read_some {d : Ident} (hop : s.op = .read) (hmap : s.hostMap[h.toFin] = some d) :
    txPerform h lc s = send (storeFrame (buildFrame s h lc) (expect d s)) := by
  rw [txPerform, hop]
  simp only [hmap]

theorem txPerform_gread (hop : s.op = .gread) :
    txPerform h lc s = send (storeFrame (generalReadFrame s h s.expf) s) := by rw [txPerform, hop]

end

/-- Settles O27, command by command. -/
theorem hostIdentifiersUnderEncodeAndWrite : Obligations.HostIdentifiersUnderEncodeAndWrite := by
  intro h lc s
  rw [exec_txInstr_eq]
  refine ⟨fun hop => ?encode, fun hop => ?write⟩
  case encode =>
    rw [txPerform_encode lc hop, finish_none_eq]
    rfl
  case write =>
    rw [txPerform_write lc hop, send_eq]
    rfl

/-- Settles O28, with and without an entry in `HOST_MAP`. -/
theorem hostIdentifiersUnderRead : Obligations.HostIdentifiersUnderRead := by
  intro h lc s hop
  rw [exec_txInstr_eq]
  refine ⟨fun hmap => ?unmapped, fun d hmap => ?mapped⟩
  case unmapped => rw [txPerform_read_none lc hop hmap, finish_none_eq]
  case mapped =>
    rw [txPerform_read_some lc hop hmap, send_eq]
    rfl

/-- Settles O29. -/
theorem hostIdentifiersUnderGeneralRead : Obligations.HostIdentifiersUnderGeneralRead := by
  intro h lc s hop
  rw [exec_txInstr_eq, txPerform_gread lc hop, send_eq]
  rfl

/-! ## READ, GREAD, AWAIT and RECV -/

/-- The guard in the numbers of R9 and R138. -/
theorem verifyFuncId_iff (g : Ident) :
    verifyFuncId g = true ↔ (0x10 ≤ g.toNat ∧ g.toNat ≤ 0x1b) ∨ g.toNat = 0x1e := by
  revert g
  decide

section
variable {s : State} (lc : LenCode) (hidle : s.busy = false)
include hidle

/-- READ, started: the row of its identifier under the latched READ (R282). -/
theorem exec_read_idle (h : Ident) :
    exec (.read h lc) s = .next (txPerform h lc (latchOp .read (clearForStart s))) := by
  rw [exec_read, startCommand_idle _ hidle, txMeaning_eq]

/-- GREAD of an admitted identifier, started: the row of `GREAD_HOST_FUNC` with that identifier expected (R283). -/
theorem exec_gread_idle {g : Ident} (hg : verifyFuncId g = true) :
    exec (.gread g lc) s = .next (txPerform s.greadHostFunc 0 (expect g (latchOp .gread (clearForStart s)))) := by
  rw [exec_gread, startCommand_idle _ hidle, if_pos hg, txMeaning_eq]
  rfl

/-- GREAD of any other identifier, started (R283). -/
theorem exec_gread_idle_refused {g : Ident} (hg : ¬ verifyFuncId g = true) :
    exec (.gread g lc) s = .next (finish .unknownFunc none (latchOp .gread (clearForStart s))) := by
  rw [exec_gread, startCommand_idle _ hidle, if_neg hg]

/-- AWAIT of an admitted identifier, started (R284). -/
theorem exec_await_idle {d : Ident} (hd : verifyFuncId d = true) :
    exec (.await d lc) s = .next (beginAttempt (expect d (latchOp .await (clearForStart s)))) := by
  rw [exec_await, startCommand_idle _ hidle, if_pos hd]

/-- AWAIT of any other identifier, started (R284). -/
theorem exec_await_idle_refused {d : Ident} (hd : ¬ verifyFuncId d = true) :
    exec (.await d lc) s = .next (finish .unknownFunc none (latchOp .await (clearForStart s))) := by
  rw [exec_await, startCommand_idle _ hidle, if_neg hd]

/-- RECV, started (R285). -/
theorem exec_recv_idle (func : Ident) :
    exec (.recv func lc) s = .next (beginAttempt (latchOp .recv (clearForStart s))) := by
  rw [exec_recv, startCommand_idle _ hidle]

end

/-- Settles O32, from READ's start and its identifier's row. -/
theorem readCommandRequestsItsMappedReply : Obligations.ReadCommandRequestsItsMappedReply := by
  intro h lc s hidle
  rw [exec_read_idle lc hidle]
  refine ⟨fun hmap => ?unmapped, fun d hmap => ?mapped⟩
  case unmapped =>
    rw [txPerform_read_none (s := latchOp .read (clearForStart s)) lc rfl hmap, finish_none_eq]
    rfl
  case mapped =>
    rw [txPerform_read_some (s := latchOp .read (clearForStart s)) lc rfl hmap, send_eq]
    rfl

/-- Settles O33, on both sides of the guard. -/
theorem greadCommandRequestsAGuardedIdentifier : Obligations.GreadCommandRequestsAGuardedIdentifier := by
  intro g lc s hidle
  rw [← verifyFuncId_iff]
  refine ⟨fun hg => ?refused, fun hg => ?admitted⟩
  case refused =>
    rw [exec_gread_idle_refused lc hidle hg, finish_none_eq]
    rfl
  case admitted =>
    rw [exec_gread_idle lc hidle hg, txPerform_gread _ rfl, send_eq]
    rfl

/-- Settles O34, AWAIT on both sides of the guard and RECV. -/
theorem awaitAndRecvBeginAnAttempt : Obligations.AwaitAndRecvBeginAnAttempt := by
  intro d lc s hidle
  rw [← verifyFuncId_iff]
  refine ⟨fun hd => ?refused, fun hd => exec_await_idle lc hidle hd, exec_recv_idle lc hidle d⟩
  case refused =>
    rw [exec_await_idle_refused lc hidle hd, finish_none_eq]
    rfl

/-- Settles O40: the started command is the row of its identifier at the cleared and latched state. -/
theorem commandsRunTheirOutboundIdentifier : Obligations.CommandsRunTheirOutboundIdentifier := by
  intro func lc s hidle
  rw [← verifyFuncId_iff]
  refine ⟨decodeTx_byte1 func lc, ?encode, ?write, ?read, fun hg => ?gread⟩
  case encode =>
    rw [exec_encode, startCommand_idle _ hidle, exec_txInstr]
    rfl
  case write =>
    rw [exec_write, startCommand_idle _ hidle, exec_txInstr]
    rfl
  case read =>
    rw [exec_read, startCommand_idle _ hidle, exec_txInstr]
    rfl
  case gread =>
    rw [exec_gread_idle lc hidle hg, exec_txInstr_eq]
    rfl

end Sys2Proof.Machine

/-! What one event does to the block, said once (R19, R260, R268), and the obligations about single steps. -/

namespace Sys2Proof.Machine

/-! ## Everything an event can do -/

/-- What a command can do in its start step (R260, R280 to R287), from the state `u` with the last status cleared. -/
inductive Starts (u : State) : State → Prop where
  | encode (h : Ident) (lc : LenCode) :
      Starts u (finish .ok none (storeFrame (buildFrame u h lc) (latchOp .encode u)))
  | write (h : Ident) (lc : LenCode) : Starts u (send (storeFrame (buildFrame u h lc) (latchOp .write u)))
  | unmapped : Starts u (finish .unknownFunc none (latchOp .read u))
  | read {h d : Ident} (lc : LenCode) (hmap : u.hostMap[h.toFin] = some d) :
      Starts u (send (storeFrame (buildFrame u h lc) (expect d (latchOp .read u))))
  | gread {g : Ident} (hg : verifyFuncId g = true) :
      Starts u (send (storeFrame (generalReadFrame u u.greadHostFunc g) (expect g (latchOp .gread u))))
  | refused (o : Op) : Starts u (finish .unknownFunc none (latchOp o u))
  | await {d : Ident} (hd : verifyFuncId d = true) : Starts u (beginAttempt (expect d (latchOp .await u)))
  | recv : Starts u (beginAttempt (latchOp .recv u))
  | flush : Starts u { latchOp .flush u with busy := true, ses := .flushing }
  | illegal : Starts u (finish .illegalCmd none u)

/-- What the block does with an event (R19): the reset, the host's accesses and the transport's answers. -/
inductive Moves (s : State) : Event → State → Prop where
  | reset : Moves s .reset (resetBlock s)
  | hostRead (idx : Slot) : Moves s (.hostRead idx) (hostRead idx s)
  | dropped (idx : Slot) (v : Word) (hbusy : s.busy = true) : Moves s (.hostWrite idx v) (dropWrite s)
  | config (v : Word) (hidle : s.busy = false) : Moves s (.hostWrite 0 v) (setConfig s v)
  | payload (v : Word) (hidle : s.busy = false) : Moves s (.hostWrite 1 v) (setPayload s v)
  | command (w : Word) {t : State} (hidle : s.busy = false) (hstart : Starts (clearForStart s) t) :
      Moves s (.hostWrite 2 w) t
  | status (v : Word) : Moves s (.hostWrite 3 v) (writeStatus v s)
  | ignored (idx : Slot) (v : Word) : Moves s (.hostWrite idx v) s
  | misfit (a : TAnswer) (hmisfit : answerFits s.ses a = false) : Moves s (.answer a) s
  | flushAck (hses : s.ses = .flushing) : Moves s (.answer .flushAck) (onFlushAck s)
  | count (c : Nat) (hses : s.ses = .writing) : Moves s (.answer (.count c)) (onCount c s)
  | read (r : ReadAnswer) (hses : s.ses = .reading) : Moves s (.answer r.toAnswer) (afterRead r s)

/-- READ starts with or without an entry of `HOST_MAP` (R282). -/
theorem starts_txPerform_read (h : Ident) (lc : LenCode) (u : State) :
    Starts u (txPerform h lc (latchOp .read u)) := by
  cases hmap : u.hostMap[h.toFin] with
  | none => exact txPerform_read_none (s := latchOp .read u) lc rfl hmap ▸ .unmapped
  | some d => exact txPerform_read_some (s := latchOp .read u) lc rfl hmap ▸ .read lc hmap

/-- A command word written while no command is in progress starts one (R260). -/
theorem exec_decodeCmd_starts {s : State} (w : Word) (hidle : s.busy = false) :
    ∃ t, exec (decodeCmd w) s = .next t ∧ Starts (clearForStart s) t := by
  rcases decodeCmd_cases w with
    ⟨f, lc, hw⟩ | ⟨f, lc, hw⟩ | ⟨f, lc, hw⟩ | ⟨f, lc, hw⟩ | ⟨f, lc, hw⟩ | ⟨f, lc, hw⟩ | ⟨f, lc, hw⟩ | hw <;> rw [hw]
  · exact ⟨_, exec_encode_idle f lc hidle, .encode f lc⟩
  · exact ⟨_, exec_write_idle f lc hidle, .write f lc⟩
  · exact ⟨_, exec_read_idle lc hidle f, starts_txPerform_read f lc _⟩
  · by_cases hf : verifyFuncId f = true
    · exact ⟨_, exec_gread_idle lc hidle hf, .gread hf⟩
    · exact ⟨_, exec_gread_idle_refused lc hidle hf, .refused .gread⟩
  · by_cases hf : verifyFuncId f = true
    · exact ⟨_, exec_await_idle lc hidle hf, .await hf⟩
    · exact ⟨_, exec_await_idle_refused lc hidle hf, .refused .await⟩
  · exact ⟨_, exec_recv_idle lc hidle f, .recv⟩
  · exact ⟨_, exec_flush_idle f lc hidle, .flush⟩
  · exact ⟨_, exec_illegal_idle hidle w, .illegal⟩

/-- Every host write answers (R62, R64, R420). -/
theorem hostWrite_moves (idx : Slot) (v : Word) (s : State) :
    ∃ t, hostWrite idx v s = .next t ∧ Moves s (.hostWrite idx v) t := by
  have hslots : idx = 0 ∨ idx = 1 ∨ idx = 2 ∨ idx = 3 ∨ 4 ≤ idx.toNat := by bv_omega
  rcases hslots with rfl | rfl | rfl | rfl | hslot
  · cases hbusy : s.busy with
    | true => exact ⟨_, congrArg Host.Outcome.next (writeConfig_busy v hbusy), .dropped 0 v hbusy⟩
    | false => exact ⟨_, congrArg Host.Outcome.next (writeConfig_idle v hbusy), .config v hbusy⟩
  · cases hbusy : s.busy with
    | true => exact ⟨_, congrArg Host.Outcome.next (writePayload_busy v hbusy), .dropped 1 v hbusy⟩
    | false => exact ⟨_, congrArg Host.Outcome.next (writePayload_idle v hbusy), .payload v hbusy⟩
  · cases hbusy : s.busy with
    | true => exact ⟨_, exec_decodeCmd_busy v hbusy, .dropped 2 v hbusy⟩
    | false =>
      obtain ⟨t, hexec, hstart⟩ := exec_decodeCmd_starts v hbusy
      exact ⟨t, hexec, .command v hbusy hstart⟩
  · exact ⟨_, hostWrite_status v s, .status v⟩
  · exact ⟨_, hostWrite_ignored v s hslot, .ignored idx v⟩

/-- An answer that fits is the one to the outstanding request (R70, R75). -/
theorem answerFits_cases {ses : Session} {a : TAnswer} (h : answerFits ses a = true) :
    (ses = .flushing ∧ a = .flushAck) ∨ (ses = .writing ∧ ∃ c, a = .count c) ∨
      (ses = .reading ∧ ∃ r : ReadAnswer, a = r.toAnswer) := by
  cases ses with
  | idle => simp [answerFits] at h
  | flushing => cases a <;> simp_all [answerFits]
  | writing => cases a <;> simp_all [answerFits]
  | reading =>
    refine .inr (.inr ⟨rfl, ?_⟩)
    exact (answerFits_reading a).resolve_left (by simp [h])

/-- In READING every answer to `TRead1()` is taken (R267). -/
theorem deliver_toAnswer {s : State} (r : ReadAnswer) (hses : s.ses = .reading) :
    deliver r.toAnswer s = .next (afterRead r s) := by
  rw [← onRead_eq]
  cases r with
  | byte b => exact deliver_byte b hses
  | timeout => exact deliver_timeout hses
  | fail => exact deliver_fail hses

/-- Every answer of the transport leads to a next state (R268). -/
theorem deliver_moves (a : TAnswer) (s : State) : ∃ t, deliver a s = .next t ∧ Moves s (.answer a) t := by
  cases hfits : answerFits s.ses a with
  | false => exact ⟨s, deliver_misfit hfits, .misfit a hfits⟩
  | true =>
    rcases answerFits_cases hfits with ⟨hses, rfl⟩ | ⟨hses, c, rfl⟩ | ⟨hses, r, rfl⟩
    · exact ⟨_, deliver_flushAck hses, .flushAck hses⟩
    · exact ⟨_, deliver_count c hses, .count c hses⟩
    · exact ⟨_, deliver_toAnswer r hses, .read r hses⟩

/-- Every event leads to a next state, by one of the moves. -/
theorem handle_moves (e : Event) (s : State) : ∃ t, handle e s = .next t ∧ Moves s e t := by
  cases e with
  | reset => exact ⟨_, rfl, .reset⟩
  | hostRead idx => exact ⟨_, rfl, .hostRead idx⟩
  | hostWrite idx v => exact hostWrite_moves idx v s
  | answer a => exact deliver_moves a s

/-- A step with an event to come is one of its moves. -/
theorem moves_of_step {s t : State} {e : Event} {rest : List Event} (h : s.pending = e :: rest)
    (hstep : step s = .next t) : Moves { s with env := rest } e t := by
  obtain ⟨u, hhandle, hmoves⟩ := handle_moves e { s with env := rest }
  rw [step_pending h, hhandle] at hstep
  cases hstep
  exact hmoves

/-- Everything a step can do: it waits, or it takes the next event. -/
theorem step_moves {s t : State} (hstep : step s = .next t) :
    (s.pending = [] ∧ t = s) ∨ ∃ e rest, s.pending = e :: rest ∧ Moves { s with env := rest } e t := by
  cases h : s.pending with
  | nil =>
    rw [step_nil h] at hstep
    cases hstep
    exact .inl ⟨rfl, rfl⟩
  | cons e rest => exact .inr ⟨e, rest, rfl, moves_of_step h hstep⟩

/-! ## Totality (R350, R363) -/

/-- A command answers when what it does once started answers. -/
theorem startCommand_answers {k : State → Host.Outcome State Fault Refusal} (h : ∀ u, ∃ t, k u = .next t) (s : State) :
    ∃ t, startCommand s k = .next t := by
  cases hbusy : s.busy with
  | true => exact ⟨_, startCommand_busy k hbusy⟩
  | false => exact startCommand_idle k hbusy ▸ h _

/-- Every instruction answers; a row of byte 1 does so by its own definition. -/
theorem exec_answers (i : Instr) (s : State) : ∃ t, exec i s = .next t := by
  cases i with
  | encode func lc => exact startCommand_answers (fun u => ⟨_, txMeaning_eq func lc _⟩) s
  | write func lc => exact startCommand_answers (fun u => ⟨_, txMeaning_eq func lc _⟩) s
  | read h lc => exact startCommand_answers (fun u => ⟨_, txMeaning_eq h lc _⟩) s
  | gread g lc =>
    rw [exec_gread]
    refine startCommand_answers (fun u => ?_) s
    split
    · exact ⟨_, txMeaning_eq _ _ _⟩
    · exact ⟨_, rfl⟩
  | await d lc =>
    rw [exec_await]
    refine startCommand_answers (fun u => ?_) s
    split <;> exact ⟨_, rfl⟩
  | recv func lc => exact startCommand_answers (fun u => ⟨_, rfl⟩) s
  | flush func lc => exact startCommand_answers (fun u => ⟨_, rfl⟩) s
  | illegal w => exact startCommand_answers (fun u => ⟨_, rfl⟩) s
  | _ => exact ⟨_, rfl⟩

/-- Settles O60, from what an event can do. -/
theorem theMachineNeverStops : Obligations.TheMachineNeverStops := by
  refine ⟨fun s => ?_, exec_answers⟩
  cases h : s.pending with
  | nil => exact ⟨s, step_nil h⟩
  | cons e rest =>
    obtain ⟨t, hhandle, -⟩ := handle_moves e { s with env := rest }
    exact ⟨t, (step_pending h).trans hhandle⟩

/-! ## Steps of one kind of event -/

/-- Settles O44: of the moves of a host access, those of an idle block are excluded. -/
theorem hostAccessesNeverMoveABusySession : Obligations.HostAccessesNeverMoveABusySession := by
  intro s t e rest hbusy haccess hpending hstep
  have hmoves := moves_of_step hpending hstep
  have hnotIdle : ¬ ({ s with env := rest } : State).busy = false := by simp [hbusy]
  rcases haccess with ⟨idx, rfl⟩ | ⟨idx, v, rfl⟩
  · cases hmoves
    rfl
  · cases hmoves with
    | dropped => rfl
    | config _ hidle => exact absurd hidle hnotIdle
    | payload _ hidle => exact absurd hidle hnotIdle
    | command _ hidle => exact absurd hidle hnotIdle
    | status => rfl
    | ignored => rfl

/-- Settles O45: such an answer is one that `answerFits` rejects. -/
theorem answersThatDoNotFitAreDropped : Obligations.AnswersThatDoNotFitAreDropped := by
  intro s a rest hpending hrequest
  have hmisfit : answerFits s.ses a = false := by
    rw [← Bool.not_eq_true]
    intro hfits
    rcases answerFits_cases hfits with ⟨hses, rfl⟩ | ⟨hses, c, rfl⟩ | ⟨hses, r, rfl⟩
    · simp [State.request, hses] at hrequest
    · simp [State.request, hses] at hrequest
    · cases r <;> simp [State.request, hses, ReadAnswer.toAnswer] at hrequest
  exact (step_pending hpending).trans (deliver_misfit hmisfit)

/-- A word that the model places as the next instruction is the host's next write to COMMAND (log 10). -/
theorem withFetchWord_word (s : State) (w : Word) : s.withFetchWord 32 w.toNat = placeCommand w s := by
  simp [State.withFetchWord]

/-- Settles O38, from the host port's COMMAND slot. -/
theorem stepRunsTheWrittenCommand : Obligations.StepRunsTheWrittenCommand := by
  refine ⟨fun w rest s hpending => step_pending hpending, fun w s => ?_⟩
  rw [withFetchWord_word]
  exact step_cons (s := placeCommand w s) rfl

/-- Settles O39: the bookkeeping of the completed frame, then the row of its identifier. -/
theorem stepRunsTheInboundIdentifier : Obligations.StepRunsTheInboundIdentifier := by
  intro b rest s f i hses hpending hreader hsum hdecode
  obtain ⟨-, rfl⟩ := decodeRx_eq_ok hdecode
  rw [step_reading (a := .byte b) hses hpending, afterRead, hreader, exec_rxInstr_eq]
  simp only [afterAttempt, if_pos hsum]
  rfl

/-! ## Reset -/

/-- Settles O57: reset writes every element of state. -/
theorem resetPutsEveryElementAtItsResetValue : Obligations.ResetPutsEveryElementAtItsResetValue := by
  intro s rest hpending
  refine ⟨resetBlock { s with env := rest }, step_pending hpending, ?config, ?payload, ?status, ?elements⟩
  case config =>
    simp only [readSlot_config, configWord, resetBlock, State.reset]
    decide
  case payload =>
    simp only [readSlot_payload, payloadWord, resetBlock, State.reset]
    decide
  case status =>
    simp only [readSlot_status, statusWord, resetBlock, State.reset]
    decide
  case elements => exact ⟨rfl, rfl, rfl, rfl, rfl, rfl, rfl, rfl, rfl, rfl, rfl, rfl, rfl, rfl, rfl, rfl, rfl⟩

/-- The default map holds typed identifiers only (R300). -/
theorem hostMapTyped_defaultHostMap : HostMapTyped defaultHostMap := by decide

/-- Settles O58, part by part: the block is idle, nothing has been tried, and every buffer is empty. -/
theorem resetSatisfiesTheInvariant : Obligations.ResetSatisfiesTheInvariant := by
  refine ⟨?session, ?attempts, ?result, ?buffers, hostMapTyped_defaultHostMap, ?expected⟩
  case session => simp [SessionInv, State.reset]
  case attempts => simp [AttemptInv, State.reset, Config.defaultMaxAttempts]
  case result => simp [ResultInv, State.reset]
  case buffers => simp [BufferInv, AccShape, BufferShape, State.reset]
  case expected => simp [State.reset]

end Sys2Proof.Machine

/-! The registers as words: STATUS, CONFIG and PAYLOAD field by field (R22 to R29), and the obligations about them. -/

namespace Sys2Proof.Machine

/-! ## STATUS -/

/-- Settles O53: a field is reached by dropping the fields to its right, a single bit is found in its part. -/
theorem statusWordLayout : Obligations.StatusWordLayout := by
  refine ⟨fun s => ?_, by decide, by decide⟩
  rw [readSlot_status]
  refine ⟨?busy, ?done, ?err, ?attempts, ?tag, ?sawTimeout, ?sawCksum, ?sawNonmatch, ?rxAny, ?rxFunc, ?overrun, ?irq⟩
  case err =>
    rw [statusWord]
    iterate 3 rw [BitVec.extractLsb'_append_eq_of_le (by decide)]
    exact BitVec.extractLsb'_append_eq_right
  case attempts =>
    rw [statusWord]
    iterate 4 rw [BitVec.extractLsb'_append_eq_of_le (by decide)]
    exact BitVec.extractLsb'_append_eq_right
  case tag =>
    rw [statusWord]
    iterate 5 rw [BitVec.extractLsb'_append_eq_of_le (by decide)]
    exact BitVec.extractLsb'_append_eq_right
  case rxFunc =>
    rw [statusWord]
    iterate 10 rw [BitVec.extractLsb'_append_eq_of_le (by decide)]
    exact BitVec.extractLsb'_append_eq_right
  all_goals
    simp only [statusWord, doneIrq, BitVec.getLsbD_append]
    simp

/-! ## Reserved bits

Under the mask of the reserved bits a register is 0 in each of its 32 bits. -/

/-- The reserved bits of CONFIG read 0 (R26). -/
theorem configWord_reserved (s : State) : configWord s &&& 0xFFF0FCE0#32 = 0#32 := by
  apply BitVec.eq_of_getLsbD_eq
  intro i hi
  simp only [configWord, BitVec.getLsbD_and, BitVec.getLsbD_append]
  interval_cases i <;> simp

/-- The reserved bits of PAYLOAD read 0 (R27). -/
theorem payloadWord_reserved (s : State) : payloadWord s &&& 0x80808080#32 = 0#32 := by
  apply BitVec.eq_of_getLsbD_eq
  intro i hi
  simp only [payloadWord, BitVec.getLsbD_and, BitVec.getLsbD_append]
  interval_cases i <;> simp

/-- The reserved bits of STATUS read 0 (R29). -/
theorem statusWord_reserved (s : State) : statusWord s &&& 0xBE00000C#32 = 0#32 := by
  apply BitVec.eq_of_getLsbD_eq
  intro i hi
  simp only [statusWord, BitVec.getLsbD_and, BitVec.getLsbD_append]
  interval_cases i <;> simp

/-! ## Reading back what was written -/

/-- The fields of CONFIG below MAX_ATTEMPTS keep their places in the word, bit by bit (R22 to R25). -/
theorem config_fields_eq (v : Word) (m : BitVec 4) :
    0#12 ++ m ++ 0#6 ++ BitVec.ofBool (v.getLsbD 9) ++ BitVec.ofBool (v.getLsbD 8) ++ 0#3 ++ v.extractLsb' 0 5 =
      v &&& 0x0000031F#32 ||| (0#12 ++ m ++ 0#16) := by
  apply BitVec.eq_of_getLsbD_eq
  intro i hi
  simp only [BitVec.getLsbD_or, BitVec.getLsbD_and, BitVec.getLsbD_append]
  interval_cases i <;> simp

/-- The field of MAX_ATTEMPTS in its place, bit by bit (R25). -/
theorem maxAttempts_field_eq (v : Word) : 0#12 ++ v.extractLsb' 16 4 ++ 0#16 = v &&& 0x000F0000#32 := by
  apply BitVec.eq_of_getLsbD_eq
  intro i hi
  simp only [BitVec.getLsbD_and, BitVec.getLsbD_append]
  interval_cases i <;> simp

theorem maxAttempts_field_eq_zero_iff (v : Word) : v &&& 0x000F0000#32 = 0#32 ↔ v.extractLsb' 16 4 = 0 := by
  constructor
  · intro h
    rw [← extractLsb'_and_of_allOnes v (show (0x000F0000#32).extractLsb' 16 4 = BitVec.allOnes 4 by decide), h]
    rfl
  · intro h
    rw [← maxAttempts_field_eq, h]
    rfl

/-- CONFIG after a write: the written bits under its mask, with 1 for a written bound of 0 (R25). -/
theorem configWord_setConfig (s : State) (v : Word) :
    configWord (setConfig s v) =
      if v &&& 0x000F0000#32 = 0#32 then (v &&& 0x0000031F#32) ||| 0x00010000#32 else v &&& 0x000F031F#32 := by
  have hfields : configWord (setConfig s v) =
      v &&& 0x0000031F#32 ||| (0#12 ++ legalMaxAttempts (v.extractLsb' 16 4) ++ 0#16) := config_fields_eq v _
  rw [hfields, legalMaxAttempts]
  split
  next hzero =>
    rw [if_pos ((maxAttempts_field_eq_zero_iff v).mpr hzero)]
    rfl
  next hne =>
    rw [if_neg (mt (maxAttempts_field_eq_zero_iff v).mp hne), maxAttempts_field_eq, ← BitVec.and_or_distrib_left]
    rfl

/-- PAYLOAD after a write: the written bits under its mask, bit by bit (R27). -/
theorem payloadWord_setPayload (s : State) (v : Word) : payloadWord (setPayload s v) = v &&& 0x7F7F7F7F#32 := by
  apply BitVec.eq_of_getLsbD_eq
  intro i hi
  simp only [payloadWord, setPayload, BitVec.getLsbD_and, BitVec.getLsbD_append]
  interval_cases i <;> simp

/-- Settles O51, register by register. -/
theorem configAndPayloadReadBack : Obligations.ConfigAndPayloadReadBack := by
  refine ⟨fun s t v hidle hwrite => ?config, fun s t v hidle hwrite => ?payload,
    fun s => ⟨configWord_reserved s, payloadWord_reserved s, statusWord_reserved s⟩⟩
  case config =>
    rw [hostWrite_config, writeConfig_idle v hidle] at hwrite
    obtain rfl := Host.Outcome.next.inj hwrite
    exact configWord_setConfig s v
  case payload =>
    rw [hostWrite_payload, writePayload_idle v hidle] at hwrite
    obtain rfl := Host.Outcome.next.inj hwrite
    exact payloadWord_setPayload s v

end Sys2Proof.Machine

/-! The invariant of the block (R277) kept by every step: what holds of a command in progress, and how each operation of
the session leads from there to a state with the invariant. -/

namespace Sys2Proof.Machine

/-! ## A command in progress -/

/-- What holds between the start of a command and its completion, whichever request is outstanding. -/
structure Running (s : State) : Prop where
  bound : s.maxAttempts ≠ 0
  undone : s.done = false
  noTag : s.resTag = .none
  result0 : s.result0 = 0
  result1 : s.result1 = 0
  noError : s.err = .ok
  txf : BufferShape s.txf
  rxf : BufferShape s.rxf
  frameSeen : s.rxAny = true → s.rxf ≠ [] ∧ s.rxFunc = identOf (s.rxf.getD 1 0)
  noFrameSeen : s.rxAny = false → s.rxFunc = 0 ∧ s.sawCksum = false ∧ s.sawNonmatch = false
  hostMap : HostMapTyped s.hostMap

/-- A command in progress of which no attempt has ended. -/
structure Fresh (s : State) : Prop extends Running s where
  attempts : s.attempts = 0
  noTimeout : s.sawTimeout = false
  noCksum : s.sawCksum = false
  noNonmatch : s.sawNonmatch = false
  noFrame : s.rxAny = false

/-- A command of which an attempt has just ended and been counted, before it is judged. A RECV has no other attempt, so
its flags are clear. -/
structure AttemptEnded (s : State) : Prop extends Running s where
  awaits : Matching s.op ∨ s.op = .recv
  typed : Matching s.op → verifyFuncId s.expf = true
  counted : s.attempts ≠ 0
  recvClear : s.op = .recv → s.sawTimeout = false ∧ s.sawCksum = false ∧ s.sawNonmatch = false

/-- An error code of the attempts has its flags (R273, R353). -/
structure ErrBacked (e : ErrCode) (s : State) : Prop where
  timeout : e = .timeout → s.sawTimeout = true ∧ s.sawCksum = false ∧ s.sawNonmatch = false
  checksum : e = .checksum → s.sawCksum = true ∧ s.sawNonmatch = false
  nonmatch : e = .unexpectedFunc → s.sawNonmatch = true

/-- The flag of at least one failed attempt is set (R35). -/
def SawFailure (s : State) : Prop := s.sawTimeout = true ∨ s.sawCksum = true ∨ s.sawNonmatch = true

section
variable {s : State}

/-- A state with the invariant in which a command is in progress. -/
theorem Running.of_inv (h : Inv s) (hbusy : s.busy = true) : Running s := by
  obtain ⟨⟨-, hdone, -⟩, ⟨hbound, -⟩, ⟨htag, hresults, herr, -⟩, ⟨-, htxf, hrxf, hseen, hnone⟩, hmap, -⟩ := h
  have hundone : s.done = false := Bool.eq_false_iff.mpr fun hd => absurd (hdone hd) (by simp [hbusy])
  have hnoTag : s.resTag = .none := by
    by_contra hne
    exact absurd (htag hne).2 (by simp [hundone])
  exact ⟨hbound, hundone, hnoTag, (hresults hnoTag).1, (hresults hnoTag).2, herr hbusy, htxf, hrxf, hseen, hnone, hmap⟩

/-- With no attempt ended, the flags of the attempts are clear. -/
theorem Fresh.of_inv (h : Inv s) (hbusy : s.busy = true) (hattempts : s.attempts = 0) : Fresh s := by
  have hrunning := Running.of_inv h hbusy
  obtain ⟨-, ⟨-, -, -, -, -, hclear⟩, -⟩ := h
  obtain ⟨htimeout, hcksum, hnonmatch, hany⟩ := hclear hbusy hattempts
  exact ⟨hrunning, hattempts, htimeout, hcksum, hnonmatch, hany⟩

/-- A cleared block is at the start of a command (R262). -/
theorem Fresh.clearForStart (h : Inv s) : Fresh (clearForStart s) := by
  obtain ⟨-, ⟨hbound, -⟩, -, ⟨-, htxf, hrxf, -, -⟩, hmap, -⟩ := h
  exact ⟨⟨hbound, rfl, rfl, rfl, rfl, rfl, htxf, hrxf, nofun, fun _ => ⟨rfl, rfl, rfl⟩, hmap⟩, rfl, rfl, rfl, rfl, rfl⟩

theorem Fresh.latchOp (o : Op) (h : Fresh s) : Fresh (latchOp o s) := { h with }

theorem Fresh.expect (d : Ident) (h : Fresh s) : Fresh (expect d s) := { h with }

theorem Fresh.storeFrame {f : List Byte} (hf : FrameShape f) (h : Fresh s) : Fresh (storeFrame f s) :=
  { h with txf := .inr hf }

theorem Running.countAttempt (h : Running s) : Running (countAttempt s) := { h with }

theorem Running.noteTimeout (h : Running s) : Running (noteTimeout s) := { h with }

/-- A corrupted frame is a frame seen. -/
theorem Running.noteCksum (h : Running s) (hany : s.rxAny = true) : Running (noteCksum s) :=
  { h with noFrameSeen := fun hnone => absurd (hany.symm.trans hnone) (by decide) }

/-- A non-matching frame is a frame seen. -/
theorem Running.noteNonmatch (h : Running s) (hany : s.rxAny = true) : Running (noteNonmatch s) :=
  { h with noFrameSeen := fun hnone => absurd (hany.symm.trans hnone) (by decide) }

theorem Running.noteFrame {f : List Byte} (hf : FrameShape f) (h : Running s) : Running (noteFrame f s) :=
  { h with
    rxf := .inr hf
    frameSeen := fun _ => ⟨List.ne_nil_of_length_pos (by have := hf.four_le_length; simp; omega), rfl⟩
    noFrameSeen := nofun }

theorem AttemptEnded.noteFrame {f : List Byte} (hf : FrameShape f) (h : AttemptEnded s) :
    AttemptEnded (noteFrame f s) := { h with toRunning := h.toRunning.noteFrame hf }

/-! ## The parts of the invariant that hold of any command in progress -/

theorem Running.resultInv (h : Running s) : ResultInv s :=
  ⟨fun hne => absurd h.noTag hne, fun _ => ⟨h.result0, h.result1⟩, fun _ => h.noError, by simp [h.noError],
    by simp [h.noError], by simp [h.noError]⟩

theorem Running.bufferInv (h : Running s) (hacc : AccShape s.acc) : BufferInv s :=
  ⟨hacc, h.txf, h.rxf, h.frameSeen, h.noFrameSeen⟩

/-! ## Completions -/

/-- A completed command is in no session and has nothing outstanding. -/
theorem sessionInv_of_completed (hses : s.ses = .idle) (hbusy : s.busy = false) (hacc : s.acc = []) : SessionInv s := by
  simp [SessionInv, hses, hbusy, hacc]

/-- Of a completed command only the bound itself is left to hold. -/
theorem attemptInv_of_completed (hses : s.ses = .idle) (hbusy : s.busy = false) (hbound : s.maxAttempts ≠ 0) :
    AttemptInv s := by
  simpa [AttemptInv, hses, hbusy] using hbound

/-- A completion with a code that its flags back leads to the invariant (R356). -/
theorem Running.inv_finish {e : ErrCode} (h : Running s) (he : ErrBacked e s) : Inv (finish e none s) := by
  rw [finish_none_eq]
  have hresult : ResultInv { s with err := e, acc := [], ses := .idle, busy := false, done := true } :=
    ⟨fun hne => absurd h.noTag hne, fun _ => ⟨h.result0, h.result1⟩, nofun, he.timeout, he.checksum, he.nonmatch⟩
  exact ⟨sessionInv_of_completed rfl rfl rfl, attemptInv_of_completed rfl rfl h.bound, hresult,
    ⟨.inl rfl, h.txf, h.rxf, h.frameSeen, h.noFrameSeen⟩, h.hostMap, nofun⟩

/-- A completion with a value leads to the invariant (R356). -/
theorem Running.inv_finish_value {v : Value} (h : Running s) (hv : v.tag ≠ .none) : Inv (finish .ok (some v) s) :=
  ⟨sessionInv_of_completed rfl rfl rfl, attemptInv_of_completed rfl rfl h.bound,
    ⟨fun _ => ⟨rfl, rfl⟩, fun hnone => absurd hnone hv, nofun, nofun, nofun, nofun⟩,
    ⟨.inl rfl, h.txf, h.rxf, h.frameSeen, h.noFrameSeen⟩, h.hostMap, nofun⟩

/-- A code that is none of the attempts' needs no flag. -/
theorem errBacked_of_ne {e : ErrCode} (htimeout : e ≠ .timeout) (hchecksum : e ≠ .checksum)
    (hnonmatch : e ≠ .unexpectedFunc) : ErrBacked e s :=
  ⟨fun h => absurd h htimeout, fun h => absurd h hchecksum, fun h => absurd h hnonmatch⟩

/-- What exhausted the budget is told by the flags, one of which is set (R273). -/
theorem errBacked_exhaustCode (h : SawFailure s) : ErrBacked (exhaustCode s) s := by
  rcases exhaustCode_cases s with ⟨hnonmatch, he⟩ | ⟨hnonmatch, hcksum, he⟩ | ⟨hnonmatch, hcksum, he⟩ <;> rw [he]
  · exact ⟨nofun, nofun, fun _ => hnonmatch⟩
  · exact ⟨nofun, fun _ => ⟨hcksum, hnonmatch⟩, nofun⟩
  · have htimeout : s.sawTimeout = true := by simpa [SawFailure, hnonmatch, hcksum] using h
    exact ⟨fun _ => ⟨htimeout, hcksum, hnonmatch⟩, nofun, nofun⟩

/-! ## Requests -/

/-- A command in progress whose flush or write is outstanding has the invariant (R264, R265). -/
theorem Fresh.inv_sending (h : Fresh s) (hbusy : s.busy = true) (hacc : s.acc = [])
    (hses : s.ses = .flushing ∧ s.op = .flush ∨ (s.ses = .flushing ∨ s.ses = .writing) ∧ Sending s.op ∧ s.txf ≠ [])
    (htyped : Matching s.op → verifyFuncId s.expf = true) : Inv s := by
  have hnotReading : s.ses ≠ .reading := by
    rcases hses with ⟨hses, -⟩ | ⟨hses | hses, -⟩ <;> simp [hses]
  refine ⟨?session, ?attempts, h.toRunning.resultInv, h.toRunning.bufferInv (.inl hacc), h.hostMap, fun _ => htyped⟩
  case session =>
    refine ⟨iff_of_true hbusy ?_, by simp [h.undone], ?_, ?_, fun hreading => absurd hreading hnotReading,
      fun _ => hacc⟩
    · rcases hses with ⟨hses, -⟩ | ⟨hses | hses, -⟩ <;> simp [hses]
    · exact fun _ => hses.symm.imp And.right And.right
    · intro hwriting
      rcases hses with ⟨hflushing, -⟩ | ⟨-, hop⟩
      · simp [hwriting] at hflushing
      · exact hop
  case attempts =>
    exact ⟨h.bound, fun _ => h.attempts, fun hreading => absurd hreading hnotReading,
      fun hreading => absurd hreading hnotReading, fun hreading => absurd hreading hnotReading,
      fun _ _ => ⟨h.noTimeout, h.noCksum, h.noNonmatch, h.noFrame⟩⟩

/-- Making the write outstanding leads to the invariant (R265). -/
theorem Fresh.inv_issueWrite (h : Fresh s) (hbusy : s.busy = true) (hacc : s.acc = []) (hop : Sending s.op)
    (htxf : s.txf ≠ []) (htyped : Matching s.op → verifyFuncId s.expf = true) : Inv (issueWrite s) := by
  have hfresh : Fresh (issueWrite s) := { h with }
  exact hfresh.inv_sending hbusy hacc (.inr ⟨.inr rfl, hop, htxf⟩) htyped

/-- Making the flush outstanding leads to the invariant (R264, R286). -/
theorem Fresh.inv_flushing (h : Fresh s) (hacc : s.acc = []) (hop : s.op = .flush ∨ Sending s.op ∧ s.txf ≠ [])
    (htyped : Matching s.op → verifyFuncId s.expf = true) : Inv { s with busy := true, ses := .flushing } := by
  have hfresh : Fresh { s with busy := true, ses := .flushing } := { h with }
  exact hfresh.inv_sending rfl hacc (hop.imp (⟨rfl, ·⟩) (⟨.inl rfl, ·⟩)) htyped

/-- Sending a built frame leads to the invariant (R264). -/
theorem Fresh.inv_send {f : List Byte} (h : Fresh s) (hacc : s.acc = []) (hf : FrameShape f) (hop : Sending s.op)
    (htyped : Matching s.op → verifyFuncId s.expf = true) : Inv (send (Machine.storeFrame f s)) := by
  have hne : f ≠ [] := List.ne_nil_of_length_pos (by have := hf.four_le_length; omega)
  have hstored := h.storeFrame hf
  rcases send_cases (Machine.storeFrame f s) with ⟨-, hsend⟩ | ⟨-, hsend⟩ <;> rw [hsend]
  · exact hstored.inv_flushing hacc (.inr ⟨hop, hne⟩) htyped
  · have hfresh : Fresh { Machine.storeFrame f s with busy := true } := { hstored with }
    exact hfresh.inv_issueWrite rfl hacc hop hne htyped

/-- The first attempt of a command leads to the invariant (R266). -/
theorem Fresh.inv_beginAttempt (h : Fresh s) (hop : Matching s.op ∨ s.op = .recv)
    (htyped : Matching s.op → verifyFuncId s.expf = true) : Inv (beginAttempt s) := by
  have hrunning : Running (beginAttempt s) := { h with }
  have hlt : s.attempts < s.maxAttempts := by
    have := h.attempts
    have := h.bound
    bv_omega
  exact ⟨⟨by simp, by simp [h.undone], nofun, nofun, fun _ => hop, by simp⟩,
    ⟨h.bound, by simp, fun _ _ => hlt, fun _ _ => h.attempts, fun _ hne => absurd h.attempts hne,
      fun _ _ => ⟨h.noTimeout, h.noCksum, h.noNonmatch, h.noFrame⟩⟩,
    hrunning.resultInv, hrunning.bufferInv (.inl rfl), h.hostMap, fun _ => htyped⟩

/-- A further attempt within the bound leads to the invariant (R272). -/
theorem AttemptEnded.inv_beginAttempt (h : AttemptEnded s) (hop : Matching s.op) (hsaw : SawFailure s)
    (hlt : s.attempts < s.maxAttempts) : Inv (beginAttempt s) := by
  have hrunning : Running (beginAttempt s) := { h with }
  exact ⟨⟨by simp, by simp [h.undone], nofun, nofun, fun _ => .inl hop, by simp⟩,
    ⟨h.bound, by simp, fun _ _ => hlt, fun _ hrecv => absurd hrecv hop.ne_recv, fun _ _ => hsaw,
      fun _ hzero => absurd hzero h.counted⟩,
    hrunning.resultInv, hrunning.bufferInv (.inl rfl), h.hostMap, fun _ => h.typed⟩

end

/-! ## The end of an attempt -/

section
variable {s : State}

/-- A matching command that failed an attempt retries or is exhausted with the invariant (R272). -/
theorem AttemptEnded.inv_retryOrExhaust (h : AttemptEnded s) (hop : Matching s.op) (hsaw : SawFailure s) :
    Inv (retryOrExhaust s) := by
  rcases retryOrExhaust_cases s with ⟨hlt, hretry⟩ | ⟨-, hretry⟩ <;> rw [hretry]
  · exact h.inv_beginAttempt hop hsaw hlt
  · exact h.toRunning.inv_finish (errBacked_exhaustCode hsaw)

theorem AttemptEnded.noteTimeout (h : AttemptEnded s) (hop : Matching s.op) : AttemptEnded (noteTimeout s) :=
  { h with recvClear := fun hrecv => absurd hrecv hop.ne_recv }

theorem AttemptEnded.noteCksum (h : AttemptEnded s) (hany : s.rxAny = true) (hop : Matching s.op) :
    AttemptEnded (noteCksum s) :=
  { h with toRunning := h.toRunning.noteCksum hany, recvClear := fun hrecv => absurd hrecv hop.ne_recv }

theorem AttemptEnded.noteNonmatch (h : AttemptEnded s) (hany : s.rxAny = true) (hop : Matching s.op) :
    AttemptEnded (noteNonmatch s) :=
  { h with toRunning := h.toRunning.noteNonmatch hany, recvClear := fun hrecv => absurd hrecv hop.ne_recv }

/-- A timed-out attempt leads to the invariant (R270). -/
theorem AttemptEnded.inv_timeout (h : AttemptEnded s) : Inv (failAttempt .timeout (Machine.noteTimeout s)) := by
  rcases h.awaits with hop | hrecv
  · rw [failAttempt_matching (s := Machine.noteTimeout s) hop.ne_recv]
    exact (h.noteTimeout hop).inv_retryOrExhaust hop (.inl rfl)
  · rw [failAttempt_recv (s := Machine.noteTimeout s) hrecv]
    obtain ⟨-, hcksum, hnonmatch⟩ := h.recvClear hrecv
    exact h.toRunning.noteTimeout.inv_finish ⟨fun _ => ⟨rfl, hcksum, hnonmatch⟩, nofun, nofun⟩

/-- A corrupted frame leads to the invariant (R270). -/
theorem AttemptEnded.inv_checksum (h : AttemptEnded s) (hany : s.rxAny = true) :
    Inv (failAttempt .checksum (Machine.noteCksum s)) := by
  rcases h.awaits with hop | hrecv
  · rw [failAttempt_matching (s := Machine.noteCksum s) hop.ne_recv]
    exact (h.noteCksum hany hop).inv_retryOrExhaust hop (.inr (.inl rfl))
  · rw [failAttempt_recv (s := Machine.noteCksum s) hrecv]
    obtain ⟨-, -, hnonmatch⟩ := h.recvClear hrecv
    exact (h.toRunning.noteCksum hany).inv_finish ⟨nofun, fun _ => ⟨rfl, hnonmatch⟩, nofun⟩

/-- A non-matching frame leads to the invariant (R270). -/
theorem AttemptEnded.inv_nonMatch (h : AttemptEnded s) (hany : s.rxAny = true) (hop : Matching s.op) :
    Inv (nonMatch s) :=
  (h.noteNonmatch hany hop).inv_retryOrExhaust hop (.inr (.inr rfl))

/-- The judgement of a checksum-valid frame leads to the invariant, where a value has a kind (R270). -/
theorem AttemptEnded.inv_rxJudge {fid : Ident} {v : Verdict} (h : AttemptEnded s) (hany : s.rxAny = true)
    (hv : ∀ x, v = .value x → x.tag ≠ .none) : Inv (rxJudge fid v s) := by
  rcases rxJudge_cases fid v s with
    ⟨x, hx, _, hjudge⟩ | ⟨_, _, hjudge⟩ | ⟨_, _, hjudge⟩ | ⟨_, _, hjudge⟩ | ⟨hop, _, hjudge⟩ <;> rw [hjudge]
  · exact h.toRunning.inv_finish_value (hv x hx)
  · exact h.toRunning.inv_finish (errBacked_of_ne nofun nofun nofun)
  · exact h.toRunning.inv_finish (errBacked_of_ne nofun nofun nofun)
  · exact h.toRunning.inv_finish (errBacked_of_ne nofun nofun nofun)
  · exact h.inv_nonMatch hany (h.awaits.resolve_right hop)

end

/-- The decoder gives no value without a kind (R34, R191). -/
theorem rxVerdict_value_tag {fid : Ident} {lc : LenCode} {f : List Byte} {v : Value}
    (h : rxVerdict fid lc f = .value v) : v.tag ≠ .none := by
  have hvalue {want : LenCode} {x : Value} (hx : requireLength lc want x = .value v) (htag : x.tag ≠ .none) :
      v.tag ≠ .none := by
    unfold requireLength at hx
    split at hx
    · cases hx
    · exact Verdict.value.inj hx ▸ htag
  unfold rxVerdict at h
  split_ifs at h
  · exact hvalue h nofun
  · exact hvalue h nofun
  · exact hvalue h nofun
  · exact hvalue h nofun
  · exact Verdict.value.inj h ▸ nofun

/-- An attempt's end leads to the invariant, where a completed frame has the wire shape (R271). -/
theorem AttemptEnded.inv_afterAttempt {o : Outcome} {s : State} (h : AttemptEnded (countAttempt s))
    (ho : ∀ f, o = .frame f → FrameShape f) : Inv (afterAttempt o s) := by
  cases o with
  | fail => exact h.toRunning.inv_finish (errBacked_of_ne nofun nofun nofun)
  | timeout => exact h.inv_timeout
  | frame f =>
    have hnoted := h.noteFrame (ho f rfl)
    rw [afterAttempt]
    split
    · exact hnoted.inv_rxJudge rfl fun _ => rxVerdict_value_tag
    · exact hnoted.inv_checksum rfl

/-- In READING the attempt in progress, once ended, is counted within the bound (R271). -/
theorem AttemptEnded.of_inv {s : State} (h : Inv s) (hses : s.ses = .reading) : AttemptEnded (countAttempt s) := by
  have hbusy : s.busy = true := by
    obtain ⟨⟨hiff, -⟩, -⟩ := h
    exact hiff.mpr (by simp [hses])
  have hrunning := (Running.of_inv h hbusy).countAttempt
  have hfresh := Fresh.of_inv h hbusy
  obtain ⟨⟨-, -, -, -, hop, -⟩, ⟨-, -, hlt, hzero, -⟩, -, -, -, htyped⟩ := h
  refine ⟨hrunning, hop hses, htyped hbusy, ?_, fun hrecv => ?_⟩
  · rw [countAttempt_attempts]
    rcases hop hses with hmatching | hrecv
    · have := hlt hses hmatching
      bv_omega
    · rw [hzero hses hrecv]
      decide
  · have hclear := hfresh (hzero hses hrecv)
    exact ⟨hclear.noTimeout, hclear.noCksum, hclear.noNonmatch⟩

/-- In READING an accumulator of another shape keeps the invariant. -/
theorem inv_setAcc {s : State} {acc : List Byte} (h : Inv s) (hses : s.ses = .reading) (hacc : AccShape acc) :
    Inv { s with acc := acc } := by
  obtain ⟨⟨hbusy, hdone, hflushing, hwriting, hreading, -⟩, hattempt, hresult, ⟨-, hbuffers⟩, hexpect⟩ := h
  exact ⟨⟨hbusy, hdone, hflushing, hwriting, hreading, fun hne => absurd hses hne⟩, hattempt, hresult,
    ⟨hacc, hbuffers⟩, hexpect⟩

/-- An answer to `TRead1()` keeps the invariant (R267). -/
theorem inv_afterRead {s : State} (r : ReadAnswer) (h : Inv s) (hses : s.ses = .reading) : Inv (afterRead r s) := by
  have hacc : AccShape s.acc := by
    obtain ⟨-, -, -, ⟨hacc, -⟩, -⟩ := h
    exact hacc
  have hended : AttemptEnded (countAttempt { s with acc := [] }) := .of_inv (inv_setAcc h hses (.inl rfl)) hses
  rw [afterRead]
  cases r with
  | timeout => exact hended.inv_afterAttempt (o := .timeout) nofun
  | fail => exact hended.inv_afterAttempt (o := .fail) nofun
  | byte b =>
    rcases hacc.readerStep_byte b with ⟨acc', hacc', hstep⟩ | ⟨f, hf, hstep⟩ <;> rw [hstep]
    · exact inv_setAcc h hses hacc'
    · exact hended.inv_afterAttempt fun g hg => Outcome.frame.inj hg ▸ hf

/-! ## The other answers -/

/-- The answer to a flush keeps the invariant (R264). -/
theorem inv_onFlushAck {s : State} (h : Inv s) (hses : s.ses = .flushing) : Inv (onFlushAck s) := by
  have hinv := h
  obtain ⟨⟨hbusy, -, hflushing, -, -, hacc⟩, ⟨-, hattempts, -⟩, -, -, -, htyped⟩ := h
  replace hbusy : s.busy = true := hbusy.mpr (by simp [hses])
  have hfresh := Fresh.of_inv hinv hbusy (hattempts (.inl hses))
  rw [onFlushAck]
  split
  next => exact hfresh.toRunning.inv_finish (errBacked_of_ne nofun nofun nofun)
  next hop =>
    obtain ⟨hsending, htxf⟩ := (hflushing hses).resolve_right hop
    exact hfresh.inv_issueWrite hbusy (hacc (by simp [hses])) hsending htxf (htyped hbusy)

/-- The answer to a write keeps the invariant (R265). -/
theorem inv_onCount {s : State} (c : Nat) (h : Inv s) (hses : s.ses = .writing) : Inv (onCount c s) := by
  have hinv := h
  obtain ⟨⟨hbusy, -, -, hwriting, -⟩, ⟨-, hattempts, -⟩, -, -, -, htyped⟩ := h
  replace hbusy : s.busy = true := hbusy.mpr (by simp [hses])
  have hfresh := Fresh.of_inv hinv hbusy (hattempts (.inr hses))
  rw [onCount]
  split_ifs with hcount hop
  · exact hfresh.toRunning.inv_finish (errBacked_of_ne nofun nofun nofun)
  · exact hfresh.toRunning.inv_finish (errBacked_of_ne nofun nofun nofun)
  · obtain ⟨hsending, -⟩ := hwriting hses
    have hmatching : Matching s.op := (hsending.resolve_left hop).imp_right .inl
    exact hfresh.inv_beginAttempt (.inl hmatching) (htyped hbusy)

/-! ## The start of a command -/

/-- A command's frame has the wire shape (R103, R132). -/
theorem frameShape_buildFrame (s : State) (h : Ident) (lc : LenCode) : FrameShape (buildFrame s h lc) :=
  frameShape_encodeFrame (List.length_take_of_le (Nat.succ_le_of_lt lc.isLt)) _ _

/-- The request of a general read has the wire shape (R283). -/
theorem frameShape_generalReadFrame (s : State) (h g : Ident) : FrameShape (generalReadFrame s h g) :=
  frameShape_encodeFrame rfl _ _

/-- Everything the start of a command can do leads to the invariant (R260). -/
theorem Starts.inv {u t : State} (hstart : Starts u t) (h : Fresh u) (hacc : u.acc = []) : Inv t := by
  cases hstart with
  | encode f lc =>
    exact ((h.latchOp .encode).storeFrame (frameShape_buildFrame u f lc)).toRunning.inv_finish
      (errBacked_of_ne nofun nofun nofun)
  | write f lc =>
    exact (h.latchOp .write).inv_send hacc (frameShape_buildFrame u f lc) (.inl rfl) (by simp [Matching])
  | unmapped => exact (h.latchOp .read).toRunning.inv_finish (errBacked_of_ne nofun nofun nofun)
  | @read f d lc hmap =>
    have htyped : verifyFuncId d = true := by simpa [hmap] using h.hostMap f
    exact ((h.latchOp .read).expect d).inv_send hacc (frameShape_buildFrame u f lc) (.inr (.inl rfl)) fun _ => htyped
  | @gread g hg =>
    exact ((h.latchOp .gread).expect g).inv_send hacc (frameShape_generalReadFrame u _ g) (.inr (.inr rfl)) fun _ => hg
  | refused o => exact (h.latchOp o).toRunning.inv_finish (errBacked_of_ne nofun nofun nofun)
  | @await d hd =>
    exact ((h.latchOp .await).expect d).inv_beginAttempt (.inl (.inr (.inr rfl))) fun _ => hd
  | recv => exact (h.latchOp .recv).inv_beginAttempt (.inr rfl) (by simp [Matching])
  | flush => exact (h.latchOp .flush).inv_flushing hacc (.inl rfl) (by simp [Matching])
  | illegal => exact h.toRunning.inv_finish (errBacked_of_ne nofun nofun nofun)

/-! ## Host accesses and reset -/

/-- A write to CONFIG keeps the invariant of an idle block: the stored bound is never 0 (R25). -/
theorem inv_setConfig {s : State} (v : Word) (h : Inv s) (hidle : s.busy = false) : Inv (setConfig s v) := by
  obtain ⟨hsession, ⟨-, hattempts, -, hrecv, hsaw, hclear⟩, hresult, hbuffers, hexpect⟩ := h
  have hses : s.ses = .idle := by
    obtain ⟨hbusy, -⟩ := hsession
    simpa [hidle] using hbusy
  have hbound : legalMaxAttempts (v.extractLsb' 16 4) ≠ 0 := by
    unfold legalMaxAttempts
    split
    · decide
    · assumption
  exact ⟨hsession, ⟨hbound, hattempts, fun hreading => by simp [hses] at hreading, hrecv, hsaw, hclear⟩, hresult,
    hbuffers, hexpect⟩

/-- A reset leads to the invariant of the reset state, with the map it had (R401). -/
theorem inv_resetBlock {s : State} (hmap : HostMapTyped s.hostMap) : Inv (resetBlock s) := by
  obtain ⟨hsession, hattempts, hresult, hbuffers, -⟩ := resetSatisfiesTheInvariant
  exact ⟨hsession, hattempts, hresult, hbuffers, hmap, nofun⟩

/-- Every move of the block keeps the invariant. -/
theorem Moves.inv {s t : State} {e : Event} (hmoves : Moves s e t) (h : Inv s) : Inv t := by
  cases hmoves with
  | reset =>
    obtain ⟨-, -, -, -, hmap, -⟩ := h
    exact inv_resetBlock hmap
  | hostRead idx => exact h
  | dropped idx v hbusy => exact h
  | config v hidle => exact inv_setConfig v h hidle
  | payload v hidle => exact h
  | command w hidle hstart =>
    have hacc : s.acc = [] := by
      obtain ⟨⟨hbusy, -, -, -, -, hacc⟩, -⟩ := h
      exact hacc fun hreading => by simp [hreading, hidle] at hbusy
    exact hstart.inv (.clearForStart h) hacc
  | status v => exact h
  | ignored idx v => exact h
  | misfit a hmisfit => exact h
  | flushAck hses => exact inv_onFlushAck h hses
  | count c hses => exact inv_onCount c h hses
  | read r hses => exact inv_afterRead r h hses

/-- Settles O59: a step waits or is a move, and every move keeps the invariant. -/
theorem everyStepKeepsTheInvariant : Obligations.EveryStepKeepsTheInvariant := by
  intro s t h hstep
  rcases step_moves hstep with ⟨-, rfl⟩ | ⟨e, rest, -, hmoves⟩
  · exact h
  · have hpopped : Inv { s with env := rest } := h
    exact hmoves.inv hpopped

end Sys2Proof.Machine

/-! What the end of an attempt leaves behind (R271): the value of a command and the records of the observation port, and
the obligations about them. -/

namespace Sys2Proof.Machine

/-! ## What the judgement of an attempt keeps -/

/-- From `s` to `t` an attempt is judged: only the session, the flags and the outcome move, and the accumulator is
empty. -/
def Judged (s t : State) : Prop :=
  t = { s with
    busy := t.busy, done := t.done, err := t.err, resTag := t.resTag, sawTimeout := t.sawTimeout
    sawCksum := t.sawCksum, sawNonmatch := t.sawNonmatch, result0 := t.result0, result1 := t.result1
    ses := t.ses, acc := [] }

theorem judged_finish_none (e : ErrCode) (s : State) : Judged s (finish e none s) := by
  rw [finish_none_eq]
  rfl

theorem judged_finish_value (v : Value) (s : State) : Judged s (finish .ok (some v) s) := rfl

theorem judged_retryOrExhaust (s : State) : Judged s (retryOrExhaust s) := by
  rcases retryOrExhaust_cases s with ⟨_, h⟩ | ⟨_, h⟩ <;> rw [h]
  · rfl
  · exact judged_finish_none _ s

theorem judged_failAttempt (e : ErrCode) (s : State) : Judged s (failAttempt e s) := by
  by_cases hrecv : s.op = .recv
  · rw [failAttempt_recv hrecv]
    exact judged_finish_none e s
  · rw [failAttempt_matching hrecv]
    exact judged_retryOrExhaust s

theorem judged_rxJudge (fid : Ident) (v : Verdict) (s : State) : Judged s (rxJudge fid v s) := by
  rcases rxJudge_cases fid v s with ⟨x, _, _, h⟩ | ⟨_, _, h⟩ | ⟨_, _, h⟩ | ⟨_, _, h⟩ | ⟨_, _, h⟩ <;> rw [h]
  · exact judged_finish_value x s
  · exact judged_finish_none _ s
  · exact judged_finish_none _ s
  · exact judged_finish_none _ s
  · exact judged_retryOrExhaust (noteNonmatch s)

/-- After the bookkeeping of an attempt (R271) only its judgement follows. -/
theorem judged_afterAttempt (o : Outcome) (s : State) : Judged (noteOutcome o s) (afterAttempt o s) := by
  cases o with
  | fail => exact judged_finish_none .transport (countAttempt s)
  | timeout => exact judged_failAttempt .timeout (noteTimeout (countAttempt s))
  | frame f =>
    rw [afterAttempt]
    split
    · exact judged_rxJudge _ _ (noteFrame f (countAttempt s))
    · exact judged_failAttempt .checksum (noteCksum (noteFrame f (countAttempt s)))

/-! ## Where a value comes from (R191, R270) -/

@[simp] theorem retryOrExhaust_resTag (s : State) : (retryOrExhaust s).resTag = s.resTag := by
  rcases retryOrExhaust_cases s with ⟨_, h⟩ | ⟨_, h⟩ <;> rw [h] <;> simp

@[simp] theorem failAttempt_resTag (e : ErrCode) (s : State) : (failAttempt e s).resTag = s.resTag := by
  unfold failAttempt
  split <;> simp

/-- The judgement of a frame changes RES_TAG only by a completion with the decoded value (R270). -/
theorem rxJudge_resTag_cases (fid : Ident) (v : Verdict) (s : State) :
    (rxJudge fid v s).resTag = s.resTag ∨
      ∃ x, v = .value x ∧ (s.op = .recv ∨ fid = s.expf) ∧ rxJudge fid v s = finish .ok (some x) s := by
  rcases rxJudge_cases fid v s with hvalue | ⟨_, _, h⟩ | ⟨_, _, h⟩ | ⟨_, _, h⟩ | ⟨_, _, h⟩
  · exact .inr hvalue
  · exact .inl (h ▸ finish_none_resTag _ s)
  · exact .inl (h ▸ finish_none_resTag _ s)
  · exact .inl (h ▸ finish_none_resTag _ s)
  · exact .inl (h ▸ retryOrExhaust_resTag (noteNonmatch s))

/-- The end of an attempt changes RES_TAG only by a completion with the value of a checksum-valid frame. -/
theorem afterAttempt_resTag_cases (o : Outcome) (s : State) :
    (afterAttempt o s).resTag = s.resTag ∨
      ∃ f x, o = .frame f ∧ cksOk f = true ∧
        rxVerdict (identOf (f.getD 1 0)) (lenCodeOf (f.getD 1 0)) f = .value x ∧
        (s.op = .recv ∨ identOf (f.getD 1 0) = s.expf) ∧
        afterAttempt o s = finish .ok (some x) (noteFrame f (countAttempt s)) := by
  cases o with
  | fail => exact .inl (finish_none_resTag _ _)
  | timeout => exact .inl (failAttempt_resTag _ _)
  | frame f =>
    rw [afterAttempt]
    split
    next hsum =>
      exact (rxJudge_resTag_cases _ _ _).imp id fun ⟨x, hv, hop, hjudge⟩ => ⟨f, x, rfl, hsum, hv, hop, hjudge⟩
    next => exact .inl (failAttempt_resTag _ _)

/-- No command gives a value in its start step. -/
theorem Starts.resTag {u t : State} (hstart : Starts u t) (hu : u.resTag = .none) : t.resTag = .none := by
  cases hstart <;> simp [hu]

/-- RES_TAG leaves NONE only in the answer to a `TRead1()`. -/
theorem Moves.read_of_resTag {s t : State} {e : Event} (hmoves : Moves s e t) (hs : s.resTag = .none)
    (ht : t.resTag ≠ .none) : ∃ r : ReadAnswer, s.ses = .reading ∧ e = .answer r.toAnswer ∧ t = afterRead r s := by
  cases hmoves with
  | reset => exact absurd rfl ht
  | hostRead => exact absurd hs ht
  | dropped => exact absurd hs ht
  | config => exact absurd hs ht
  | payload => exact absurd hs ht
  | command w hidle hstart => exact absurd (hstart.resTag rfl) ht
  | status => exact absurd hs ht
  | ignored => exact absurd hs ht
  | misfit => exact absurd hs ht
  | flushAck =>
    unfold onFlushAck at ht
    split at ht <;> simp [hs] at ht
  | count =>
    unfold onCount at ht
    split_ifs at ht <;> simp [hs] at ht
  | read r hses => exact ⟨r, hses, rfl, rfl⟩

/-- Settles O48: the step ends an attempt, and only the completion with a frame's value changes RES_TAG. -/
theorem resultsComeOnlyFromValidTypedFrames : Obligations.ResultsComeOnlyFromValidTypedFrames := by
  intro s t hs hstep ht
  rcases step_moves hstep with ⟨-, rfl⟩ | ⟨e, rest, hpending, hmoves⟩
  · exact absurd hs ht
  obtain ⟨r, hses, rfl, rfl⟩ := hmoves.read_of_resTag hs ht
  rcases hreader : readerStep s.acc r with ⟨acc', _ | o⟩ <;> simp only [afterRead, hreader] at ht ⊢
  · exact absurd hs ht
  obtain rfl := readerStep_outcome hreader
  rcases afterAttempt_resTag_cases o { s with env := rest, acc := [] } with hkept | ⟨f, x, rfl, hsum, hv, hop, hafter⟩
  · exact absurd (hkept.trans hs) ht
  rw [hafter]
  obtain ⟨b, rfl, -, -, -, hcomplete⟩ := readerStep_frame hreader
  have htyped : verifyFuncId (identOf (f.getD 1 0)) = true := by
    by_contra huntyped
    rcases rxVerdict_untyped _ (lenCodeOf (f.getD 1 0)) f (Bool.eq_false_iff.mpr huntyped) with h | h <;>
      exact absurd (h.symm.trans hv) nofun
  exact ⟨⟨b, rest, hpending, hreader⟩, rfl, rfl, hses, rfl, rfl, rfl, hsum, htyped, hop,
    (specDecode_eq_rxVerdict hcomplete).trans hv⟩

/-! ## What is observed (R380, R381) -/

/-- The byte that completes a frame for the Frame Reader. -/
def CompletesFrame (s : State) (e : Event) (f : List Byte) : Prop :=
  s.ses = .reading ∧ ∃ b, e = .answer (.byte b) ∧ readerStep s.acc (.byte b) = ([], some (.frame f))

/-- What the observation port gets in a step from `s` to `t`: nothing, the frame sent or the frame completed. -/
inductive Observes (s : State) (e : Event) (t : State) : Prop where
  | quiet (hobs : t.obs = s.obs) (hses : t.ses = .writing → s.ses = .writing) (hframe : ∀ f, ¬ CompletesFrame s e f)
  | sent (hobs : t.obs = if s.debug = true then s.obs ++ [⟨.tx, t.txf⟩] else s.obs) (hses : t.ses = .writing)
      (hstart : SessionInv s → s.ses ≠ .writing) (hframe : ∀ f, ¬ CompletesFrame s e f)
  | completed (hobs : t.obs = if s.debug = true then s.obs ++ [⟨.rx, t.rxf⟩] else s.obs) (hses : t.ses ≠ .writing)
      (hframe : CompletesFrame s e t.rxf) (hany : t.rxAny = true) (hattempts : t.attempts = s.attempts + 1)
      (hacc : t.acc = [])

/-- A host access or a reset completes no frame. -/
theorem not_completesFrame_of_ne {s : State} {e : Event} (he : ∀ a, e ≠ .answer a) (f : List Byte) :
    ¬ CompletesFrame s e f := fun ⟨_, _, h, _⟩ => he _ h

/-- Nothing completes a frame outside READING. -/
theorem not_completesFrame_of_ses {s : State} {e : Event} (hses : s.ses ≠ .reading) (f : List Byte) :
    ¬ CompletesFrame s e f := fun h => hses h.1

/-- In READING a frame is completed by the answer with which the reader's step ends in it. -/
theorem completesFrame_iff {s : State} (hses : s.ses = .reading) (r : ReadAnswer) (f : List Byte) :
    CompletesFrame s (.answer r.toAnswer) f ↔ readerStep s.acc r = ([], some (.frame f)) := by
  constructor
  · rintro ⟨-, b, hb, hreader⟩
    cases r with
    | byte c =>
      cases hb
      exact hreader
    | timeout => cases hb
    | fail => cases hb
  · intro hreader
    obtain ⟨b, rfl, -⟩ := readerStep_frame hreader
    exact ⟨hses, b, rfl, hreader⟩

/-- Sending observes the frame when its write becomes outstanding at once (R264, R265). -/
theorem send_observes (s : State) :
    ((send s).obs = s.obs ∧ (send s).ses ≠ .writing) ∨
      ((send s).obs = (if s.debug = true then s.obs ++ [⟨.tx, (send s).txf⟩] else s.obs) ∧
        (send s).ses = .writing) := by
  rcases send_cases s with ⟨-, h⟩ | ⟨-, h⟩ <;> rw [h]
  · exact .inl ⟨rfl, nofun⟩
  · exact .inr ⟨rfl, rfl⟩

/-- The start of a command observes its frame when its write becomes outstanding at once. -/
theorem Starts.observes {u t : State} (hstart : Starts u t) :
    (t.obs = u.obs ∧ t.ses ≠ .writing) ∨
      (t.obs = (if u.debug = true then u.obs ++ [⟨.tx, t.txf⟩] else u.obs) ∧ t.ses = .writing) := by
  cases hstart with
  | encode => exact .inl ⟨finish_none_obs _ _, by simp⟩
  | write => exact send_observes _
  | unmapped => exact .inl ⟨finish_none_obs _ _, by simp⟩
  | read => exact send_observes _
  | gread => exact send_observes _
  | refused => exact .inl ⟨finish_none_obs _ _, by simp⟩
  | await => exact .inl ⟨rfl, nofun⟩
  | recv => exact .inl ⟨rfl, nofun⟩
  | flush => exact .inl ⟨rfl, nofun⟩
  | illegal => exact .inl ⟨finish_none_obs _ _, by simp⟩

/-- The answer to a `TRead1()` observes the frame it completes (R271). -/
theorem afterRead_observes {s : State} (r : ReadAnswer) (hses : s.ses = .reading) :
    Observes s (.answer r.toAnswer) (afterRead r s) := by
  have hkept : (afterRead r s).ses ≠ .writing := by
    rcases (attemptKeeps_afterRead r s).ses with h | h | h <;> simp [h, hses]
  have hframe := completesFrame_iff hses r
  rcases hreader : readerStep s.acc r with ⟨acc', _ | o⟩
  · have hafter : afterRead r s = { s with acc := acc' } := by rw [afterRead, hreader]
    exact .quiet (hafter ▸ rfl) (fun h => absurd h hkept) fun f h => by simp [hframe, hreader] at h
  · obtain rfl := readerStep_outcome hreader
    have hafter : afterRead r s = afterAttempt o { s with acc := [] } := by rw [afterRead, hreader]
    have hjudged := judged_afterAttempt o { s with acc := [] }
    rw [← hafter] at hjudged
    have hobs := congrArg State.obs hjudged
    cases o with
    | fail => exact .quiet hobs (fun h => absurd h hkept) fun f h => by simp [hframe, hreader] at h
    | timeout => exact .quiet hobs (fun h => absurd h hkept) fun f h => by simp [hframe, hreader] at h
    | frame f =>
      have hrxf : (afterRead r s).rxf = f := congrArg State.rxf hjudged
      exact .completed (hrxf ▸ hobs) hkept ((hframe _).mpr (hrxf ▸ hreader)) (congrArg State.rxAny hjudged)
        (congrArg State.attempts hjudged) (congrArg State.acc hjudged)

/-- Every move observes at most one frame, the one it sends or completes. -/
theorem Moves.observes {s t : State} {e : Event} (hmoves : Moves s e t) : Observes s e t := by
  cases hmoves with
  | reset => exact .quiet rfl nofun (not_completesFrame_of_ne nofun)
  | hostRead => exact .quiet rfl id (not_completesFrame_of_ne nofun)
  | dropped => exact .quiet rfl id (not_completesFrame_of_ne nofun)
  | config => exact .quiet rfl id (not_completesFrame_of_ne nofun)
  | payload => exact .quiet rfl id (not_completesFrame_of_ne nofun)
  | status => exact .quiet rfl id (not_completesFrame_of_ne nofun)
  | ignored => exact .quiet rfl id (not_completesFrame_of_ne nofun)
  | command w hidle hstart =>
    rcases hstart.observes with ⟨hobs, hses⟩ | ⟨hobs, hses⟩
    · exact .quiet hobs (fun h => absurd h hses) (not_completesFrame_of_ne nofun)
    · exact .sent hobs hses (fun ⟨hbusy, _⟩ h => by simp [hidle, h] at hbusy) (not_completesFrame_of_ne nofun)
  | misfit a hmisfit =>
    refine .quiet rfl id ?_
    rintro f ⟨hses, b, hb, -⟩
    cases hb
    simp [hses, answerFits] at hmisfit
  | flushAck hses =>
    have hnone := not_completesFrame_of_ses (s := s) (e := .answer .flushAck) (by simp [hses])
    rw [onFlushAck]
    split
    next => exact .quiet (finish_none_obs _ _) (by simp) hnone
    next => exact .sent rfl rfl (by simp [hses]) hnone
  | count c hses =>
    have hnone := not_completesFrame_of_ses (s := s) (e := .answer (.count c)) (by simp [hses])
    rw [onCount]
    split_ifs
    · exact .quiet (finish_none_obs _ _) (by simp) hnone
    · exact .quiet (finish_none_obs _ _) (by simp) hnone
    · exact .quiet rfl nofun hnone
  | read r hses => exact afterRead_observes r hses

/-- Settles O49: the debug bit decides whether the step's one frame, sent or completed, is observed. -/
theorem observationOnlyInDebug : Obligations.ObservationOnlyInDebug := by
  intro s t hstep
  rcases step_moves hstep with ⟨hpending, rfl⟩ | ⟨e, rest, hpending, hmoves⟩
  · refine ⟨fun _ => rfl, .inl rfl, fun _ => ⟨fun hne hses => absurd hses hne, fun b rest f _ h => ?_⟩⟩
    simp [hpending] at h
  have hevent {b : Byte} {rest' : List Event} (h : s.pending = .answer (.byte b) :: rest') : e = .answer (.byte b) :=
    (List.cons.inj (hpending.symm.trans h)).1
  cases hmoves.observes with
  | quiet hobs hses hframe =>
    refine ⟨fun _ => hobs, .inl hobs, fun _ => ⟨fun hne h => absurd (hses h) hne, fun b rest' f hs h hreader => ?_⟩⟩
    exact absurd ⟨hs, b, hevent h, hreader⟩ (hframe f)
  | sent hobs hses hstart hframe =>
    cases hdebug : s.debug with
    | false =>
      replace hobs : t.obs = s.obs := by simpa [hdebug] using hobs
      exact ⟨fun _ => hobs, .inl hobs, nofun⟩
    | true =>
      replace hobs : t.obs = s.obs ++ [⟨.tx, t.txf⟩] := by simpa [hdebug] using hobs
      refine ⟨nofun, .inr (.inl ⟨hobs, hses, hstart⟩), fun _ => ⟨fun _ _ => hobs, fun b rest' f hs h hreader => ?_⟩⟩
      exact absurd ⟨hs, b, hevent h, hreader⟩ (hframe f)
  | completed hobs hses hframe hany hattempts hacc =>
    obtain ⟨hreading, b, rfl, hreader⟩ := hframe
    cases hdebug : s.debug with
    | false =>
      replace hobs : t.obs = s.obs := by simpa [hdebug] using hobs
      exact ⟨fun _ => hobs, .inl hobs, nofun⟩
    | true =>
      replace hobs : t.obs = s.obs ++ [⟨.rx, t.rxf⟩] := by simpa [hdebug] using hobs
      refine ⟨nofun, .inr (.inr ⟨hobs, hreading, hany, hattempts, hacc, b, rest, hpending, hreader⟩),
        fun _ => ⟨fun _ h => absurd h hses, fun b' rest' f _ h hreader' => ?_⟩⟩
      obtain rfl : b = b' := by simpa using hevent h
      obtain rfl : t.rxf = f := by simpa using (hreader.symm.trans hreader')
      exact ⟨rfl, hobs⟩

end Sys2Proof.Machine

/-! Runs of the machine in READING: over the bytes of frames and over timeouts (R170, R267, R272, R285), and the
obligations about them. -/

namespace Sys2Proof.Machine

/-! ## Runs over bytes -/

/-- A byte in READING on which the reader goes on only moves the accumulator (R267). -/
theorem step_byte_of_goesOn {s : State} {b : Byte} {acc' : List Byte} {rest : List Event} (hses : s.ses = .reading)
    (hpending : s.pending = .answer (.byte b) :: rest) (hreader : readerStep s.acc (.byte b) = (acc', none)) :
    step s = .next { s with env := rest, acc := acc' } := by
  rw [step_reading (a := .byte b) hses hpending, afterRead, hreader]

/-- A byte in READING on which the reader has an outcome ends the attempt (R267, R271). -/
theorem step_byte_of_ends {s : State} {b : Byte} {acc' : List Byte} {o : Outcome} {rest : List Event}
    (hses : s.ses = .reading) (hpending : s.pending = .answer (.byte b) :: rest)
    (hreader : readerStep s.acc (.byte b) = (acc', some o)) :
    step s = .next (afterAttempt o { s with env := rest, acc := acc' }) := by
  rw [step_reading (a := .byte b) hses hpending, afterRead, hreader]

/-- Bytes on which the reader goes on only move the accumulator, one step each (R170). -/
theorem run_bytes_of_goesOn {s : State} {bs acc' : List Byte} {rest : List Event} (hses : s.ses = .reading)
    (henv : s.env = bs.map (fun b => .answer (.byte b)) ++ rest) (hread : readBytes s.acc bs = (acc', none, [])) :
    Sys2Proof.core.run bs.length s = .next { s with env := rest, acc := acc' } := by
  induction bs generalizing s with
  | nil =>
    obtain ⟨rfl, -⟩ := Prod.mk.inj hread
    obtain rfl : s.env = rest := henv
    rfl
  | cons b bs ih =>
    rcases hreader : readerStep s.acc (.byte b) with ⟨acc1, _ | o⟩
    · rw [readBytes_cons_of_goesOn hreader] at hread
      rw [List.length_cons, run_succ _ (step_byte_of_goesOn hses (pending_cons henv) hreader)]
      exact ih hses rfl hread
    · simp [readBytes_cons_of_ends hreader] at hread

/-- Bytes of which the last one gives the reader an outcome end the attempt with it (R161, R271). -/
theorem run_bytes_of_ends {s : State} {bs acc' : List Byte} {o : Outcome} {rest : List Event} (hses : s.ses = .reading)
    (henv : s.env = bs.map (fun b => .answer (.byte b)) ++ rest) (hread : readBytes s.acc bs = (acc', some o, [])) :
    Sys2Proof.core.run bs.length s = .next (afterAttempt o { s with env := rest, acc := acc' }) := by
  induction bs generalizing s with
  | nil => simp [readBytes] at hread
  | cons b bs ih =>
    rcases hreader : readerStep s.acc (.byte b) with ⟨acc1, _ | o1⟩
    · rw [readBytes_cons_of_goesOn hreader] at hread
      rw [List.length_cons, run_succ _ (step_byte_of_goesOn hses (pending_cons henv) hreader)]
      exact ih hses rfl hread
    · rw [readBytes_cons_of_ends hreader] at hread
      obtain ⟨rfl, rfl, rfl⟩ : acc1 = acc' ∧ o1 = o ∧ bs = [] := by simpa using hread
      exact run_succ 0 (step_byte_of_ends hses (pending_cons henv) hreader)

/-- The bytes of a frame end the attempt with that frame, whatever was collected before (R170). -/
theorem run_frame {s : State} {f : List Byte} {rest : List Event} (hses : s.ses = .reading) (hf : FrameShape f)
    (henv : s.env = f.map (fun b => .answer (.byte b)) ++ rest) :
    Sys2Proof.core.run f.length s = .next (afterAttempt (.frame f) { s with env := rest, acc := [] }) :=
  run_bytes_of_ends hses henv (by simpa using hf.readBytes_append s.acc [])

/-! ## A whole frame under RECV -/

/-- A frame of the wire shape is complete. -/
theorem FrameShape.frameComplete {f : List Byte} (hf : FrameShape f) : frameComplete f = true :=
  (frameComplete_iff f).mpr ⟨by have := hf.four_le_length; omega, hf.1⟩

/-- A corrupted frame ends RECV with CHECKSUM (R285, R358). -/
theorem afterAttempt_frame_corrupt_recv {f : List Byte} {s : State} (hsum : cksOk f = false) (hop : s.op = .recv) :
    afterAttempt (.frame f) s = finish .checksum none (noteCksum (noteFrame f (countAttempt s))) := by
  rw [afterAttempt, if_neg (by simp [hsum])]
  exact failAttempt_recv hop

/-- A checksum-valid frame is judged by the decoder's verdict (R270, R358). -/
theorem afterAttempt_frame_valid {f : List Byte} (s : State) (hf : FrameShape f) (hsum : cksOk f = true) :
    afterAttempt (.frame f) s =
      rxJudge (identOf (f.getD 1 0)) (specDecode f) (noteFrame f (countAttempt s)) := by
  rw [afterAttempt, if_pos hsum, specDecode_eq_rxVerdict hf.frameComplete]

/-- A checksum-valid frame ends RECV with the decoder's verdict on it, whatever that is (R285). -/
theorem afterAttempt_frame_valid_recv {f : List Byte} {s : State} (hf : FrameShape f) (hsum : cksOk f = true)
    (hop : s.op = .recv) :
    afterAttempt (.frame f) s =
      match specDecode f with
      | .value x => finish .ok (some x) (noteFrame f (countAttempt s))
      | .lengthMismatch => finish .length none (noteFrame f (countAttempt s))
      | .unallowed => finish .unallowed none (noteFrame f (countAttempt s))
      | .unknown => finish .unrecognized none (noteFrame f (countAttempt s)) := by
  rw [afterAttempt_frame_valid s hf hsum]
  exact if_pos hop

/-- Settles O16: the run over the frame, then the checksum and the decoder's verdict. -/
theorem recvReportsTheFrameItReads : Obligations.RecvReportsTheFrameItReads := by
  intro s f rest hses hop htag hr0 hr1 hf henv
  have hrun := run_frame hses hf henv
  cases hsum : cksOk f with
  | false =>
    rw [afterAttempt_frame_corrupt_recv (s := { s with env := rest, acc := [] }) hsum hop] at hrun
    exact ⟨_, hrun, by simp [htag, hr0, hr1]⟩
  | true =>
    rw [afterAttempt_frame_valid_recv (s := { s with env := rest, acc := [] }) hf hsum hop] at hrun
    refine ⟨_, hrun, ?_⟩
    cases specDecode f <;> simp [htag, hr0, hr1]

/-! ## Timeouts -/

section
variable {s : State} {rest : List Event} (hses : s.ses = .reading) (hop : Matching s.op)
include hses hop

/-- A timeout under a matching command is retried or exhausts it (R270). -/
theorem step_timeout (hpending : s.pending = .answer .timeout :: rest) :
    step s = .next (retryOrExhaust (noteTimeout (countAttempt { s with env := rest, acc := [] }))) :=
  (step_reading (a := .timeout) hses hpending).trans (congrArg _ (failAttempt_matching hop.ne_recv))

/-- A timeout with budget left uses up an attempt and begins another one (R272). -/
theorem step_timeout_of_lt (hbusy : s.busy = true) (hpending : s.pending = .answer .timeout :: rest)
    (hlt : s.attempts + 1 < s.maxAttempts) :
    step s = .next { s with env := rest, attempts := s.attempts + 1, sawTimeout := true, acc := [] } := by
  rw [step_timeout hses hop hpending]
  simp only [noteTimeout, countAttempt]
  rw [retryOrExhaust_of_lt hlt, beginAttempt, hses, hbusy]

/-- A timeout without budget left exhausts the command (R272, R273). -/
theorem step_timeout_of_not_lt (hpending : s.pending = .answer .timeout :: rest)
    (hlt : ¬ s.attempts + 1 < s.maxAttempts) :
    step s =
      .next { s with
        env := rest, attempts := s.attempts + 1, sawTimeout := true, err := exhaustCode s
        acc := [], ses := .idle, busy := false, done := true } := by
  rw [step_timeout hses hop hpending]
  simp only [noteTimeout, countAttempt]
  rw [retryOrExhaust_of_not_lt hlt, finish_none_eq]
  rfl

/-- Fewer timeouts than the budget has attempts left only use up attempts (R272). -/
theorem run_timeouts {k : Nat} (hbusy : s.busy = true) (hk : s.attempts.toNat + k < s.maxAttempts.toNat)
    (henv : s.env = List.replicate k (.answer .timeout) ++ rest) :
    ∃ (n : BitVec 4) (saw : Bool) (acc : List Byte),
      Sys2Proof.core.run k s = .next { s with env := rest, attempts := n, sawTimeout := saw, acc := acc } ∧
        n.toNat = s.attempts.toNat + k := by
  induction k generalizing s with
  | zero =>
    obtain rfl : s.env = rest := by simpa using henv
    exact ⟨_, _, _, rfl, rfl⟩
  | succ k ih =>
    have hcount : (s.attempts + 1).toNat = s.attempts.toNat + 1 := by bv_omega
    have hlt : s.attempts + 1 < s.maxAttempts := by bv_omega
    obtain ⟨n, saw, acc, hrun, hn⟩ := ih
      (s := { s with
        env := List.replicate k (.answer .timeout) ++ rest, attempts := s.attempts + 1, sawTimeout := true, acc := [] })
      hses hop hbusy (by dsimp only; omega) rfl
    exact ⟨n, saw, acc, (run_succ k (step_timeout_of_lt hses hop hbusy (pending_cons henv) hlt)).trans hrun,
      by dsimp only at hn; omega⟩

end

/-- Settles O46: all timeouts but the last one are retried, and the last one exhausts the budget. -/
theorem timeoutsExhaustTheBudget : Obligations.TimeoutsExhaustTheBudget := by
  intro s n rest hses hop hbusy hdone hbudget hn henv
  have hsplit {k : Nat} (hk : k < n) :
      s.env = List.replicate k (.answer .timeout) ++ (List.replicate (n - k) (.answer .timeout) ++ rest) := by
    rw [henv, ← List.append_assoc, List.replicate_append_replicate, Nat.add_sub_cancel' hk.le]
  refine ⟨fun k hk => ?within, ?exhausted⟩
  case within =>
    obtain ⟨a, saw, acc, hrun, ha⟩ := run_timeouts hses hop hbusy (by omega) (hsplit hk)
    exact ⟨_, hrun, hses, hdone, ha⟩
  case exhausted =>
    obtain ⟨m, rfl⟩ : ∃ m, n = m + 1 := Nat.exists_eq_add_of_le' hn
    obtain ⟨a, saw, acc, hrun, ha⟩ := run_timeouts hses hop hbusy (by omega) (hsplit (Nat.lt_succ_self m))
    have hlast : a + 1 = s.maxAttempts := by bv_omega
    have hrest : List.replicate (m + 1 - m) (.answer .timeout) ++ rest = .answer .timeout :: rest := by simp
    rw [hrest] at hrun
    have hspent : ¬ a + 1 < s.maxAttempts := by bv_omega
    rw [run_add m 1 hrun]
    have hstep := step_timeout_of_not_lt (rest := rest)
      (s := { s with env := .answer .timeout :: rest, attempts := a, sawTimeout := saw, acc := acc })
      hses hop rfl hspent
    rw [run_succ 0 hstep, ← hlast]
    rfl

/-! ## Frames under a matching command -/

/-- A value on a frame of the expected identifier is the result (R270). -/
theorem rxJudge_value {fid : Ident} {s : State} (v : Value) (hident : fid = s.expf) :
    rxJudge fid (.value v) s = finish .ok (some v) s := by
  rw [rxJudge, if_neg (not_not_intro hident), ite_self]

/-- A wrong length of a frame of the expected identifier ends the command (R270). -/
theorem rxJudge_length {fid : Ident} {s : State} (hident : fid = s.expf) :
    rxJudge fid .lengthMismatch s = finish .length none s := by
  rw [rxJudge, if_neg (not_not_intro hident), ite_self]

/-- The bookkeeping of a non-matching frame, at the end of its bytes (R270, R271). -/
def noteOtherFrame (f : List Byte) (rest : List Event) (s : State) : State :=
  noteNonmatch (noteFrame f (countAttempt { s with env := rest, acc := [] }))

section
variable (f : List Byte) (rest : List Event) (s : State)

@[simp] theorem noteOtherFrame_ses : (noteOtherFrame f rest s).ses = s.ses := by simp [noteOtherFrame]
@[simp] theorem noteOtherFrame_op : (noteOtherFrame f rest s).op = s.op := by simp [noteOtherFrame]
@[simp] theorem noteOtherFrame_expf : (noteOtherFrame f rest s).expf = s.expf := by simp [noteOtherFrame]
@[simp] theorem noteOtherFrame_env : (noteOtherFrame f rest s).env = rest := by simp [noteOtherFrame]
@[simp] theorem noteOtherFrame_txf : (noteOtherFrame f rest s).txf = s.txf := by simp [noteOtherFrame]
@[simp] theorem noteOtherFrame_rxf : (noteOtherFrame f rest s).rxf = f := by simp [noteOtherFrame]
@[simp] theorem noteOtherFrame_resTag : (noteOtherFrame f rest s).resTag = s.resTag := by simp [noteOtherFrame]
@[simp] theorem noteOtherFrame_sawNonmatch : (noteOtherFrame f rest s).sawNonmatch = true := by simp [noteOtherFrame]
@[simp] theorem noteOtherFrame_attempts : (noteOtherFrame f rest s).attempts = s.attempts + 1 := by
  simp [noteOtherFrame]
@[simp] theorem noteOtherFrame_maxAttempts : (noteOtherFrame f rest s).maxAttempts = s.maxAttempts := by
  simp [noteOtherFrame]

end

section
variable {s : State} {f : List Byte} {rest : List Event} (hses : s.ses = .reading) (hf : FrameShape f)
  (hsum : cksOk f = true) (henv : s.env = f.map (fun b => .answer (.byte b)) ++ rest)
include hses hf hsum henv

/-- A frame of the expected, typed identifier completes the command, with its value or with LENGTH (R270). -/
theorem run_frame_matching (hident : identOf (f.getD 1 0) = s.expf) (htyped : verifyFuncId s.expf = true) :
    (∃ v, specDecode f = .value v ∧ Sys2Proof.core.run f.length s =
        .next (finish .ok (some v) (noteFrame f (countAttempt { s with env := rest, acc := [] })))) ∨
      (specDecode f = .lengthMismatch ∧ Sys2Proof.core.run f.length s =
        .next (finish .length none (noteFrame f (countAttempt { s with env := rest, acc := [] })))) := by
  have hverdict : specDecode f = .lengthMismatch ∨ ∃ v, specDecode f = .value v := by
    rw [specDecode_eq_rxVerdict hf.frameComplete]
    exact rxVerdict_typed _ _ f (hident ▸ htyped)
  have hrun := run_frame hses hf henv
  rw [afterAttempt_frame_valid _ hf hsum] at hrun
  rcases hverdict with hlength | ⟨v, hvalue⟩
  · exact .inr ⟨hlength, hrun.trans (by rw [hlength]; exact congrArg _ (rxJudge_length hident))⟩
  · exact .inl ⟨v, hvalue, hrun.trans (by rw [hvalue]; exact congrArg _ (rxJudge_value v hident))⟩

variable (hop : Matching s.op) (hident : identOf (f.getD 1 0) ≠ s.expf)
include hop hident

/-- A checksum-valid frame of another identifier is a failed attempt (R270). -/
theorem run_frame_nonMatch : Sys2Proof.core.run f.length s = .next (retryOrExhaust (noteOtherFrame f rest s)) := by
  rw [run_frame hses hf henv, afterAttempt_frame_valid _ hf hsum]
  exact congrArg _ (rxJudge_nonMatch _ hop.ne_recv hident)

/-- With budget left the next attempt begins (R272). -/
theorem run_frame_retried (hlt : s.attempts + 1 < s.maxAttempts) :
    Sys2Proof.core.run f.length s = .next (beginAttempt (noteOtherFrame f rest s)) := by
  rw [run_frame_nonMatch hses hf hsum henv hop hident, retryOrExhaust_of_lt (by simpa using hlt)]

/-- With no budget left the command is exhausted with UNEXPECTED_FUNC (R273). -/
theorem run_frame_exhausted (hlt : ¬ s.attempts + 1 < s.maxAttempts) :
    Sys2Proof.core.run f.length s = .next (finish .unexpectedFunc none (noteOtherFrame f rest s)) := by
  rw [run_frame_nonMatch hses hf hsum henv hop hident, retryOrExhaust_of_not_lt (by simpa using hlt), exhaustCode,
    if_pos (noteOtherFrame_sawNonmatch f rest s)]

end

/-- The last attempt of the budget decides the command by its frame: a value on the expected identifier, or
UNEXPECTED_FUNC for another one (R270, R273). -/
theorem run_frame_last {s : State} {f : List Byte} {rest : List Event} (hses : s.ses = .reading) (hop : Matching s.op)
    (htyped : verifyFuncId s.expf = true) (hsaw : s.sawNonmatch = true) (htag : s.resTag = .none)
    (hspent : ¬ s.attempts + 1 < s.maxAttempts) (hf : FrameShape f) (hsum : cksOk f = true)
    (henv : s.env = f.map (fun b => .answer (.byte b)) ++ rest) :
    ∃ t : State, Sys2Proof.core.run f.length s = .next t ∧ t.ses = .idle ∧ t.done = true ∧ t.busy = false ∧
      t.attempts = s.attempts + 1 ∧ t.sawNonmatch = true ∧ t.rxf = f ∧ t.env = rest ∧ t.txf = s.txf ∧
      (∀ v : Value, identOf (f.getD 1 0) = s.expf → specDecode f = .value v →
        t.err = .ok ∧ t.resTag = v.tag ∧ t.result0 = v.r0 ∧ t.result1 = v.r1) ∧
      (identOf (f.getD 1 0) ≠ s.expf → t.err = .unexpectedFunc ∧ t.resTag = .none) := by
  by_cases hident : identOf (f.getD 1 0) = s.expf
  · rcases run_frame_matching hses hf hsum henv hident htyped with ⟨v, hv, hrun⟩ | ⟨hlength, hrun⟩
    · refine ⟨_, hrun, rfl, rfl, rfl, rfl, hsaw, rfl, rfl, rfl, fun v' _ hv' => ?_, fun hne => absurd hident hne⟩
      obtain rfl : v = v' := Verdict.value.inj (hv.symm.trans hv')
      exact ⟨rfl, rfl, rfl, rfl⟩
    · exact ⟨_, hrun, rfl, rfl, rfl, rfl, hsaw, rfl, rfl, rfl,
        fun v _ hv => absurd (hlength.symm.trans hv) nofun, fun hne => absurd hident hne⟩
  · exact ⟨_, run_frame_exhausted hses hf hsum henv hop hident hspent, by simp, by simp, by simp, by simp, by simp,
      by simp, by simp, by simp, fun v h => absurd h hident, fun _ => by simpa using htag⟩

/-- Settles O47: two retried frames, and the third one decides. -/
theorem thirdAttemptDecidesAReadOfThree : Obligations.ThirdAttemptDecidesAReadOfThree := by
  intro s f1 f2 f3 rest hses hop hbusy hmax hattempts htyped htag hf1 hf2 hf3 hsum1 hsum2 hsum3 hident1 hident2 henv
  have hlt1 : s.attempts + 1 < s.maxAttempts := by rw [hmax, hattempts]; decide
  have hlt2 : s.attempts + 1 + 1 < s.maxAttempts := by rw [hmax, hattempts]; decide
  have hspent : ¬ s.attempts + 1 + 1 + 1 < s.maxAttempts := by rw [hmax, hattempts]; decide
  obtain ⟨events3, hevents3⟩ : ∃ es, es = f3.map (fun b => Event.answer (.byte b)) ++ rest := ⟨_, rfl⟩
  obtain ⟨events2, hevents2⟩ : ∃ es, es = f2.map (fun b => Event.answer (.byte b)) ++ events3 := ⟨_, rfl⟩
  have henv1 : s.env = f1.map (fun b => .answer (.byte b)) ++ events2 := by simpa [hevents2, hevents3] using henv
  have hrun1 := run_frame_retried hses hf1 hsum1 henv1 hop hident1 hlt1
  have hrun2 := run_frame_retried (s := beginAttempt (noteOtherFrame f1 events2 s)) (rest := events3) (by simp)
    hf2 hsum2 (by simpa using hevents2) (by simpa using hop) (by simpa using hident2) (by simpa using hlt2)
  obtain ⟨t, hrun3, hthird⟩ :=
    run_frame_last (s := beginAttempt (noteOtherFrame f2 events3 (beginAttempt (noteOtherFrame f1 events2 s))))
      (rest := rest) (by simp) (by simpa using hop) (by simpa using htyped) (by simp) (by simpa using htag)
      (by simpa using hspent) hf3 hsum3 (by simpa using hevents3)
  refine ⟨t, ?_, by simpa [hattempts] using hthird⟩
  rw [List.length_append, List.length_append, Nat.add_assoc, run_add _ _ hrun1, run_add _ _ hrun2, hrun3]

end Sys2Proof.Machine

/-! Attempts that never end (R171, R427): streams of bytes on which the Frame Reader completes no frame, as oracles and
as repeated scripts, and the obligation about them. -/

namespace Sys2Proof.Machine

/-! ## Bytes that complete no frame -/

/-- Bytes that complete no frame whatever follows them: start bytes, or continuation bytes in HUNT (R164, R165). -/
def Harmless (acc bs : List Byte) : Prop :=
  (∀ b ∈ bs, isContinuation b = false) ∨ (acc = [] ∧ ∀ b ∈ bs, isContinuation b = true)

theorem Harmless.mono {acc bs cs : List Byte} (h : Harmless acc bs) (hsub : cs ⊆ bs) : Harmless acc cs :=
  h.imp (fun hstart b hb => hstart b (hsub hb)) (And.imp_right fun hcont b hb => hcont b (hsub hb))

/-- On one of them the reader goes on, and they stay what they are. -/
theorem Harmless.readerStep {acc bs : List Byte} {b : Byte} (h : Harmless acc bs) (hb : b ∈ bs) :
    ∃ acc', readerStep acc (.byte b) = (acc', none) ∧ Harmless acc' bs := by
  rcases h with hstart | ⟨rfl, hcont⟩
  · exact ⟨[b], readerStep_start (hstart b hb) acc, .inl hstart⟩
  · exact ⟨[], readerStep_hunt (hcont b hb), .inr ⟨rfl, hcont⟩⟩

/-- Of start bytes the reader keeps the last one (R164). -/
theorem readBytes_start {bs : List Byte} (acc : List Byte) (hbs : ∀ b ∈ bs, isContinuation b = false) :
    readBytes acc bs = ((bs.getLast?.map (fun b => [b])).getD acc, none, []) := by
  induction bs generalizing acc with
  | nil => rfl
  | cons b bs ih =>
    rw [readBytes_cons_of_goesOn (readerStep_start (hbs b List.mem_cons_self) acc),
      ih [b] fun c hc => hbs c (List.mem_cons_of_mem b hc), List.getLast?_cons]
    cases bs.getLast? <;> rfl

/-- In HUNT the reader drops every continuation byte (R165). -/
theorem readBytes_hunt {bs : List Byte} (hbs : ∀ b ∈ bs, isContinuation b = true) :
    readBytes [] bs = ([], none, []) := by
  induction bs with
  | nil => rfl
  | cons b bs ih =>
    rw [readBytes_cons_of_goesOn (readerStep_hunt (hbs b List.mem_cons_self)),
      ih fun c hc => hbs c (List.mem_cons_of_mem b hc)]

theorem Harmless.readBytes {acc bs : List Byte} (h : Harmless acc bs) : (readBytes acc bs).2.1 = none := by
  rcases h with hstart | ⟨rfl, hcont⟩
  · rw [readBytes_start acc hstart]
  · rw [readBytes_hunt hcont]

/-- Without an outcome every byte has been read (R160). -/
theorem readBytes_of_none {acc bs : List Byte} (h : (readBytes acc bs).2.1 = none) :
    readBytes acc bs = ((readBytes acc bs).1, none, []) := by
  induction bs generalizing acc with
  | nil => rfl
  | cons b bs ih =>
    rcases hreader : Machine.readerStep acc (.byte b) with ⟨acc', _ | o⟩
    · rw [readBytes_cons_of_goesOn hreader] at h ⊢
      exact ih h
    · simp [readBytes_cons_of_ends hreader] at h

/-- A byte more after which there is still no outcome is one on which the reader goes on. -/
theorem readerStep_of_readBytes_append {acc bs : List Byte} {b : Byte} (hbs : (readBytes acc bs).2.1 = none)
    (h : (readBytes acc (bs ++ [b])).2.1 = none) :
    readerStep (readBytes acc bs).1 (.byte b) = ((readBytes acc (bs ++ [b])).1, none) := by
  rw [readBytes_append_of_goesOn (readBytes_of_none hbs)] at h ⊢
  rcases hreader : readerStep (readBytes acc bs).1 (.byte b) with ⟨acc', _ | o⟩
  · rw [readBytes_cons_of_goesOn hreader]
    rfl
  · simp [readBytes_cons_of_ends hreader] at h

/-! ## Streams of bytes as an oracle -/

/-- The oracle that answers every request with the next byte of a stream. -/
abbrev byteOracle (bs : Nat → Byte) (k : Nat) : Event := .answer (.byte (bs k))

/-- A byte on which the reader goes on, as the next event of an oracle, only moves the accumulator (R267). -/
theorem runUnder_succ_byte {o : Nat → Event} {n : Nat} {s t : State} {b : Byte} {acc' : List Byte}
    (hrun : runUnder o n s = .next t) (hb : o n = .answer (.byte b)) (hses : t.ses = .reading)
    (hreader : readerStep t.acc (.byte b) = (acc', none)) :
    runUnder o (n + 1) s = .next { t with env := [], acc := acc' } := by
  rw [runUnder, hrun]
  exact step_byte_of_goesOn (s := { t with env := [o n] }) hses (by rw [hb]; rfl) hreader

/-- Under a stream that completes no frame only the accumulator moves. -/
theorem runUnder_bytes {s : State} {bs : Nat → Byte} (hses : s.ses = .reading)
    (hquiet : ∀ n, (readBytes s.acc ((List.range n).map bs)).2.1 = none) (n : Nat) :
    ∃ env, runUnder (byteOracle bs) n s =
      .next { s with env := env, acc := (readBytes s.acc ((List.range n).map bs)).1 } := by
  induction n with
  | zero => exact ⟨s.env, rfl⟩
  | succ n ih =>
    obtain ⟨env, hrun⟩ := ih
    have hnext := hquiet (n + 1)
    rw [List.range_succ, List.map_append, List.map_singleton] at hnext ⊢
    have hreader := readerStep_of_readBytes_append (hquiet n) hnext
    exact ⟨[], runUnder_succ_byte (t := { s with env := env, acc := _ }) hrun rfl hses hreader⟩

/-- A stream that completes no frame answers every request it meets, and so is fair (R74). -/
theorem fairFor_bytes {s : State} {bs : Nat → Byte} (hses : s.ses = .reading)
    (hquiet : ∀ n, (readBytes s.acc ((List.range n).map bs)).2.1 = none) : FairFor (byteOracle bs) s := by
  intro n t hrun _
  obtain ⟨env, hrun'⟩ := runUnder_bytes hses hquiet n
  obtain rfl := Host.Outcome.next.inj (hrun.symm.trans hrun')
  exact ⟨n, le_rfl, _, hrun, .inr ⟨_, rfl, by simp [hses, answerFits]⟩⟩

/-! ## Streams of bytes as a script and its repetition -/

/-- The next event of a script of bytes, or of its repetition once it is used up (R47, R171). -/
theorem pending_bytes {s : State} {first loop : List Byte} (henv : s.env = first.map (fun b => .answer (.byte b)))
    (hagain : s.again = loop.map (fun b => .answer (.byte b))) :
    (s.pending = [] ∧ first = [] ∧ loop = []) ∨
      ∃ b rest, s.pending = .answer (.byte b) :: rest.map (fun b => .answer (.byte b)) ∧
        (first = b :: rest ∨ first = [] ∧ loop = b :: rest) := by
  cases first with
  | cons b rest => exact .inr ⟨b, rest, pending_cons henv, .inl rfl⟩
  | nil =>
    have hpending := (pending_nil henv).trans hagain
    cases loop with
    | nil => exact .inl ⟨hpending, rfl, rfl⟩
    | cons b rest => exact .inr ⟨b, rest, hpending, .inr ⟨rfl, rfl⟩⟩

/-- Under harmless bytes, the script's and then its repetition's, only the accumulator and the script move. -/
theorem run_harmless {s : State} {first loop : List Byte} (hses : s.ses = .reading)
    (henv : s.env = first.map (fun b => .answer (.byte b))) (hagain : s.again = loop.map (fun b => .answer (.byte b)))
    (h : Harmless s.acc (first ++ loop)) (n : Nat) :
    ∃ first' acc', (first' <:+ first ∨ first' <:+ loop.tail) ∧
      Sys2Proof.core.run n s =
        .next { s with env := first'.map (fun b => .answer (.byte b)), acc := acc' } := by
  induction n generalizing s first with
  | zero => exact ⟨first, s.acc, .inl List.suffix_rfl, by rw [← henv]; rfl⟩
  | succ n ih =>
    rcases pending_bytes henv hagain with ⟨hpending, rfl, rfl⟩ | ⟨b, rest, hpending, hnext⟩
    · rw [run_succ n (step_nil hpending)]
      exact ih hses henv hagain h
    · have hmem : b ∈ first ++ loop := by rcases hnext with rfl | ⟨rfl, rfl⟩ <;> simp
      have hsub : rest ++ loop ⊆ first ++ loop := by rcases hnext with rfl | ⟨rfl, rfl⟩ <;> simp
      have hsuffix (l : List Byte) (hl : l <:+ rest) : l <:+ first ∨ l <:+ loop.tail := by
        rcases hnext with rfl | ⟨rfl, rfl⟩
        · exact .inl (hl.trans (List.suffix_cons b rest))
        · exact .inr hl
      obtain ⟨acc1, hreader, hharmless⟩ := h.readerStep hmem
      obtain ⟨first', acc', hfirst', hrun⟩ := ih
        (s := { s with env := rest.map (fun b => .answer (.byte b)), acc := acc1 }) hses rfl hagain
        (hharmless.mono hsub)
      exact ⟨first', acc', hfirst'.elim (hsuffix first') .inr,
        (run_succ n (step_byte_of_goesOn hses hpending hreader)).trans hrun⟩

/-- The start of RECV from reset, before any byte: the state from which the transport repeats a start byte. -/
theorem step_recv_from_reset (again : List Event) :
    step { State.reset with env := [.hostWrite 2 5#32], again := again } =
      .next (beginAttempt (latchOp .recv (clearForStart { State.reset with again := again }))) := by
  have hword : decodeCmd 5#32 = .recv 0 0 := decodeCmd_of_masked (op := 5#3) decodeCmd_cmdWord_recv rfl
  exact (step_writeCommand hword rfl).trans (exec_recv_idle 0 rfl 0)

/-- Settles O15: the streams as oracles, as repeated scripts and as finite ones, and the one that starts at reset. -/
theorem startBytesAloneNeverEndAnAttempt : Obligations.StartBytesAloneNeverEndAnAttempt := by
  refine ⟨fun s hses => ⟨?oracle, ?streams, ?repeated, ?finite⟩, ?reset⟩
  case oracle =>
    intro bs hquiet
    refine ⟨fairFor_bytes hses hquiet, fun n => ?_⟩
    obtain ⟨env, hrun⟩ := runUnder_bytes hses hquiet n
    exact ⟨_, hrun, hses, by simp [State.request, hses], rfl, rfl, rfl, rfl, rfl⟩
  case streams =>
    intro bs hbs n
    have hharmless : Harmless s.acc ((List.range n).map bs) := by
      refine hbs.imp (fun h => ?_) (And.imp_right fun h => ?_) <;> simp [h]
    exact hharmless.readBytes
  case repeated =>
    intro first loop henv hagain hharmless n
    obtain ⟨first', acc', -, hrun⟩ := run_harmless hses henv hagain hharmless n
    refine ⟨_, hrun, hses, by simp [State.request, hses], rfl, rfl, rfl, rfl, fun hloop => ?_⟩
    cases first' with
    | nil => simpa [State.pending, hagain] using hloop
    | cons b bs => simp [State.pending]
  case finite =>
    intro bs hbs henv
    have hrun := run_bytes_of_goesOn (rest := []) hses (by simpa using henv) (readBytes_start s.acc hbs)
    exact ⟨_, hrun, hses, by simp [State.request, hses], rfl, rfl, rfl, rfl, rfl⟩
  case reset =>
    intro n
    rw [run_succ n (step_recv_from_reset _)]
    obtain ⟨first', acc', hfirst', hrun⟩ := run_harmless
      (s := beginAttempt (latchOp .recv (clearForStart { State.reset with again := [.answer (.byte 0#8)] })))
      (first := []) (loop := [0#8]) rfl rfl rfl (.inl (by simp [isContinuation])) n
    obtain rfl : first' = [] := by simpa using hfirst'
    exact ⟨_, hrun, rfl, rfl, rfl, rfl, rfl⟩

end Sys2Proof.Machine
